-- ==== Sys2Proof/Word.lean ====
section
/-! DEFINITION. The word types of the ZS-32, the numbers of its ports, inputs, pairs, groups, slots and watches
(spec/00_scope.md section 5.1), and a bank: a fixed number of like things picked and put by number. -/

/-- The entry of a bank with number `i`. -/
def Vector.pick {α : Type} {n : Nat} (b : Vector α n) (i : Fin n) : α := b.get i

/-- The bank with entry `i` replaced. -/
def Vector.put {α : Type} {n : Nat} (b : Vector α n) (i : Fin n) (a : α) : Vector α n := b.set i.val a i.isLt

/-- The bank whose entry `i` is `f i`. -/
def Vector.fill {α : Type} {n : Nat} (f : Fin n → α) : Vector α n := Vector.ofFn f

namespace Sys2Proof

/-- One byte of a frame (8.8). -/
abbrev Byte := BitVec 8

/-- A two-byte field of a frame: an operand or a value (8.8.1, 8.8.3), a signed number in two's complement (R153). -/
abbrev Half := BitVec 16

/-- A converter sample: a 24-bit two's-complement integer (R21). -/
abbrev Sample := BitVec 24

/-- A consumer port, 0 to 3. -/
abbrev Port := Fin 4

/-- An input, 0 to 31. -/
abbrev InputNo := Fin 32

/-- A pair, 0 to 15. -/
abbrev PairNo := Fin 16

/-- A phantom group, 0 to 7. -/
abbrev GroupNo := Fin 8

/-- A slot of a port's map, 0 to 31. -/
abbrev SlotNo := Fin 32

/-- A watch of a port, 0 to 7. -/
abbrev WatchNo := Fin 8

/-- The 64 samples of every input in one cycle (R21). -/
abbrev CycleSamples := Vector (Vector Sample 64) 32

end Sys2Proof
end

