-- ==== Sys2Proof/Syntax.lean ====
section
/-! DEFINITION. The commands of the ZS-32: one constructor for each row of spec/opcode_table.json. The sixteen request
kinds and UNKNOWN are the requests of R154 and R155 as their frames carry them (kind, target and operands as raw
fields, 8.8.1); the other rows are the events of the part's surroundings, timers and storage. -/

namespace Sys2Proof

/-- The two redundant lanes of a port (spec/00_scope.md section 5.1). -/
inductive LaneId where
  | primary
  | secondary
deriving DecidableEq, Repr

/-- The sense level of a phantom group's supply (section 1.5). -/
inductive Sense where
  | low
  | ok
deriving DecidableEq, Repr

/-- The two positions of the SETUP key switch (R168). -/
inductive SwitchPosition where
  | run
  | setup
deriving DecidableEq, Repr

/-- The commands. In a request, `port` is the port whose console sent it, `target` the target byte and `a`, `b` the
operands A and B of its frame; a kind keeps the fields its rule reads, and the target where the response echoes it. -/
inductive Instr where
  /-- CLAIM (R27 to R32): the target is an input. -/
  | claim (port : Port) (target : Byte)
  /-- YIELD (R33 to R35): the target is an input. -/
  | yield (port : Port) (target : Byte)
  /-- GAIN (R14): `a` is the step. -/
  | gain (port : Port) (target : Byte) (a : Half)
  /-- PAD (R15): `a` is 0 (off) or 1 (on). -/
  | pad (port : Port) (target : Byte) (a : Half)
  /-- MODE (R16): `a` is 0 (MIC) or 1 (LINE). -/
  | mode (port : Port) (target : Byte) (a : Half)
  /-- PHANTOM (R17): the target is a group, `a` is 0 or 1. -/
  | phantom (port : Port) (target : Byte) (a : Half)
  /-- TRIM (R60): `a` is the trim in qdB. -/
  | trim (port : Port) (target : Byte) (a : Half)
  /-- MUTE (R63): `a` is 0 or 1. -/
  | mute (port : Port) (target : Byte) (a : Half)
  /-- LINK (R71): the target is a pair, `a` is 0 or 1. -/
  | link (port : Port) (target : Byte) (a : Half)
  /-- SLOT (R105, R106): the target is a slot, `a` the input or -1, `b` the format code. -/
  | slot (port : Port) (target : Byte) (a b : Half)
  /-- COMMIT (R108): the target is echoed only. -/
  | commit (port : Port) (target : Byte)
  /-- ROUND (R94): `a` is the rounding mode's code; the target is echoed only. -/
  | round (port : Port) (target : Byte) (a : Half)
  /-- WATCH (R158): the target is a watch, `a` its input and options, `b` its threshold in qdB. -/
  | watch (port : Port) (target : Byte) (a b : Half)
  /-- WATCH_CLEAR (R162): the target is a watch, or 255 for all. -/
  | watchClear (port : Port) (target : Byte)
  /-- SETTING (R169): the target is the item, `a` its new value. -/
  | setting (port : Port) (target : Byte) (a : Half)
  /-- FACTORY (R170): the target is echoed only. -/
  | factory (port : Port) (target : Byte)
  /-- UNKNOWN (R155): a request whose kind byte is not 0x01 to 0x10. -/
  | unknown (port : Port) (kind target : Byte)
  /-- COPY_START (R141): a copy start marker on a lane; `rest` is the bytes received since the header of the copy it
  ends (since that copy's start, where no fourth byte arrived). -/
  | copyStart (port : Port) (lane : LaneId) (rest : List Byte)
  /-- SIGNAL_LOSS (R141): the lane signal is lost; `rest` as for COPY_START. -/
  | signalLoss (port : Port) (lane : LaneId) (rest : List Byte)
  /-- HEADER_ARRIVAL (R141, R142): the fourth byte of a copy arrives, at `tick` of the timebase (R120, R147); the four
  bytes of the header as received. -/
  | headerArrival (port : Port) (lane : LaneId) (count requests crcHigh crcLow : Byte) (tick : Nat)
  /-- MISS (R143): a lane's miss timer expires. -/
  | miss (port : Port) (lane : LaneId)
  /-- GRACE_EXPIRY (R146): a port's grace timer expires. -/
  | graceExpiry (port : Port)
  /-- CYCLE_START (R1): a cycle of the sample clock starts; `schedule` is the order in which the ports' waiting
  requests are taken in that event (R151), a port named once for each take. -/
  | cycleStart (schedule : List Port)
  /-- CYCLE_END (R84): a cycle ends; the 64 converter samples of every input in it (R21). -/
  | cycleEnd (samples : CycleSamples)
  /-- MODE_TIMER_EXPIRY (R6). -/
  | modeTimerExpiry (input : InputNo)
  /-- CHARGE_TIMER_EXPIRY (R8). -/
  | chargeTimerExpiry (group : GroupNo)
  /-- DISCHARGE_TIMER_EXPIRY (R10). -/
  | dischargeTimerExpiry (group : GroupNo)
  /-- LOW_SENSE_TIMER_EXPIRY (R9). -/
  | lowSenseTimerExpiry (group : GroupNo)
  /-- FAULT_VOID_TIMER_EXPIRY (R11). -/
  | faultVoidTimerExpiry (group : GroupNo)
  /-- SENSE_CHANGE (R9): the measured sense level of a group becomes `level`. -/
  | senseChange (group : GroupNo) (level : Sense)
  /-- ACQUIRE_TIMER_EXPIRY (R130). -/
  | acquireTimerExpiry
  /-- HOLDOVER_TIMER_EXPIRY (R135). -/
  | holdoverTimerExpiry
  /-- QUIET_TIMER_EXPIRY (R172). -/
  | quietTimerExpiry
  /-- CEILING_TIMER_EXPIRY (R172). -/
  | ceilingTimerExpiry
  /-- FRONT_END_WRITE_COMPLETE (R172). -/
  | frontEndWriteComplete
  /-- SETTINGS_WRITE_COMPLETE (R169). -/
  | settingsWriteComplete
  /-- FACTORY_WRITE_COMPLETE (R170). -/
  | factoryWriteComplete
  /-- SETUP_SWITCH_TURN (R168): the key switch is turned to `position`. -/
  | setupSwitchTurn (position : SwitchPosition)
  /-- POWER_ON (R173): whether the CRC of each stored copy checks as it is read at this start. -/
  | powerOn (settingsSound frontEndSound : Bool)
  /-- POWER_LOSS (R172). -/
  | powerLoss
deriving DecidableEq, Repr

end Sys2Proof
end

