-- ==== Sys2Proof/Config.lean ====
section
/-! DEFINITION. What the manual fixes for every part: durations in ticks of the timebase, limits and ranges; and the
one value it leaves open, as an opaque constant that nothing can evaluate. -/

namespace Sys2Proof.Config

/-- Ticks of the 24.576 MHz timebase in one millisecond (R120). -/
def ticksPerMs : Nat := 24576

/-- A duration in milliseconds, in ticks. -/
def ms (n : Nat) : Nat := n * ticksPerMs

/-- The charge timer and the mode timer of a change to MIC (R5, R8). -/
def chargeTicks : Nat := ms 600

/-- The discharge timer, the fault-void timer and the mode timer of a change to LINE (R5, R8, R11). -/
def dischargeTicks : Nat := ms 300

/-- The low-sense timer (R9). -/
def lowSenseTicks : Nat := ms 100

/-- The grace timer (R146). -/
def graceTicks : Nat := ms 500

/-- The acquire timer (R128) and the quiet timer (R171): 2 s. -/
def twoSeconds : Nat := ms 2000

/-- The holdover timer (R134) and the ceiling timer (R171): 10 s. -/
def tenSeconds : Nat := ms 10000

/-- The cycles of one settle (R3, R5). -/
def settleCycles : Nat := 4

/-- The places of a request queue (R149) and of a response queue (R151). -/
def queuePlaces : Nat := 8

/-- The responses that leave in one control window (R151). -/
def windowResponses : Nat := 4

/-- The limit on the payload of a live map, in bytes (R104). -/
def payloadLimit : Nat := 7168

/-- The valid headers that bring a lane UP (R142). -/
def validHeadersForUp : Nat := 4

/-- The misses that take an UP lane DOWN (R142), and the out-of-window intervals that end LOCKED (R132). -/
def missesForDown : Nat := 3

/-- The consecutive in-window intervals of a lock and of a relock, and the length of the history (R124, R129, R134). -/
def lockIntervals : Nat := 8

/-- FREE VALUE (log entry 6): the CRC error indication of the lane status record after a copy of fewer than 4 bytes.
R141 says of such a copy only that it has no valid header. Applied to the state's draw counter, so that each such copy
may give either value. -/
opaque shortCopyCrcError : Nat → Bool

end Sys2Proof.Config
end

