-- ==== Sys2Proof/Machine/State.lean ====
section
/-! DEFINITION. The state of the ZS-32 as plain data, block by block as spec/00_scope.md section 2 gives each block its
state; the fault and refusal reasons; and the machine right after reset. INVENTORY.md, '## State', lists every field
with its rule and its reset value. -/

namespace Sys2Proof.Machine

/-- No command of this block stops the machine: the manual names no fault that ends a run and calls no behaviour
undefined. The type has no constructor, so that no step can answer a fault. -/
inductive Fault where
deriving DecidableEq, Repr

/-- Why a command has no meaning in the model. -/
inductive Refusal where
  /-- Raised by an arm of `exec` for a command that is not modelled yet (none is left). Safe: the run stops. -/
  | notModelled (mnemonic : String)
deriving DecidableEq, Repr

/-! ### The front end (chapter 1) -/

/-- The input switch (section 1.4). -/
inductive Mode where
  | mic
  | line
deriving DecidableEq, Repr

/-- The state of a phantom group (section 1.5). -/
inductive PhantomState where
  | off
  | charging
  | on
  | discharging
  | fault
deriving DecidableEq, Repr

/-- A timer: `none` while stopped, `some d` while running, started with `d` ticks. -/
abbrev Timer := Option Nat

/-- The causes of voidness that held at the start of the current cycle (R19). -/
structure VoidCauses where
  settle : Bool
  modeTimer : Bool
  group : Bool
  clock : Bool
deriving DecidableEq, Repr

/-- What the front end keeps for one input (section 1.1). -/
structure Preamp where
  /-- The step last set by GAIN (R2). -/
  gainTarget : Nat
  /-- The step the preamplifier is at in the current cycle (R2). -/
  gainActual : Nat
  padRequested : Bool
  padInEffect : Bool
  modeRequested : Mode
  modeInEffect : Mode
  /-- Cycles of settle still to be voided (R4). -/
  settle : Nat
  /-- The per-input phantom timer (R6). -/
  modeTimer : Timer
  /-- The causes fixed at the start of the current cycle (R19). -/
  causes : VoidCauses
  /-- Whether phantom has reached the input at some time of the current cycle (R7). -/
  phantomReached : Bool
  /-- The effective analog gain of the current cycle, in dB (R1). -/
  effective : Int
  /-- The peak of the last completed cycle, `none` for void (R22). -/
  lastPeak : Option Nat
  /-- Whether the last completed cycle overloaded (R23). -/
  overload : Bool
deriving DecidableEq, Repr

/-- What the front end hands over for one input at the end of a cycle, for that cycle's audio and digest (R166, R167). -/
structure InputReport where
  gainActual : Nat
  padInEffect : Bool
  modeInEffect : Mode
  phantomApplied : Bool
  causes : VoidCauses
  lastPeak : Option Nat
deriving DecidableEq, Repr

/-- A phantom group: its state, its sense level and its four timers (section 1.5). -/
structure PhantomGroup where
  state : PhantomState
  sense : Sense
  chargeTimer : Timer
  dischargeTimer : Timer
  lowSenseTimer : Timer
  faultVoidTimer : Timer
deriving DecidableEq, Repr

/-- The front end's state. `ovl` is the OVL sticky per port and input (R23); `reports` the last hand-over (R166). -/
structure FrontEnd where
  inputs : Vector Preamp 32
  groups : Vector PhantomGroup 8
  ovl : Vector (Vector Bool 32) 4
  reports : Vector InputReport 32
deriving DecidableEq, Repr

/-! ### The gain arbiter (chapters 2, 3 and 4) -/

/-- The holder and wait queue of an input, oldest waiter first (R25, R26). -/
structure Holding where
  holder : Option Port
  queue : List Port
deriving DecidableEq, Repr

/-- A compensation record with its applied digital gain (R51): anchor in dB, trim and applied gain in qdB. -/
structure CompRecord where
  anchor : Int
  trim : Int
  mute : Bool
  compLimited : Bool
  applied : Int
deriving DecidableEq, Repr

/-- The gain arbiter's state: holdings per input, link state per pair (R70), records per port and input, and the
records as handed over at the end of the last cycle (R54). -/
structure Arbiter where
  holdings : Vector Holding 32
  linked : Vector Bool 16
  records : Vector (Vector CompRecord 32) 4
  handed : Vector (Vector CompRecord 32) 4
deriving DecidableEq, Repr

/-! ### The level engine (chapter 5) -/

/-- The slot formats (R89). -/
inductive Format where
  | fix16
  | fix24
  | flt32
deriving DecidableEq, Repr

/-- The rounding modes (R90). -/
inductive Rounding where
  | nearest
  | towardZero
  | floor
deriving DecidableEq, Repr

/-- The level engine's state: the rounding mode requested and in effect per port (R93), the CLIP and VOID stickies per
port and input (R97, R98), and the samples and rounding modes of the last completed cycle, from which the blocks of the
next downlink are computed (R84). From a cycle end to the cycle start after it, `clipBefore` is the CLIP stickies as they
stood before that cycle end, to which the ones called for by the map then in effect are added (R84, R97; log entry 14);
otherwise it is `none`. -/
structure LevelEngine where
  requested : Vector Rounding 4
  inEffect : Vector Rounding 4
  clip : Vector (Vector Bool 32) 4
  void : Vector (Vector Bool 32) 4
  clipBefore : Option (Vector (Vector Bool 32) 4)
  samples : CycleSamples
  rounding : Vector Rounding 4
deriving DecidableEq, Repr

/-! ### The slot mapper (chapter 6) -/

/-- A non-empty entry of a map (R103). -/
structure SlotEntry where
  input : InputNo
  format : Format
deriving DecidableEq, Repr

/-- A map of 32 slots; `none` is EMPTY (R103). -/
abbrev SlotMap := Vector (Option SlotEntry) 32

/-- What the slot mapper keeps for one port (R103). -/
structure PortMaps where
  live : SlotMap
  draft : SlotMap
  generation : Byte
  commitPending : Bool
deriving DecidableEq, Repr

/-! ### The clock tracker (chapter 7) -/

/-- The sample rates (5.4). -/
inductive Rate where
  | khz48
  | khz96
deriving DecidableEq, Repr

/-- The clock state with its reference port (7.5). -/
inductive ClockState where
  | free
  | acquire (r : Port)
  | locked (r : Port)
  | holdover (r : Port)
deriving DecidableEq, Repr

/-- The last header measured on the reference lane (R123): its cycle count and its tick. -/
structure Predecessor where
  count : Byte
  tick : Nat
deriving DecidableEq, Repr

/-- The clock tracker's state. -/
structure Clock where
  state : ClockState
  /-- The rate in effect since start (R120, R164). -/
  rate : Rate
  /-- The cycle length L of the sample clock in ticks; it may carry a fraction (R120, R124). -/
  length : Rat
  /-- The interval history, oldest first, at most 8 (R124). -/
  history : List Int
  /-- The in-window count of ACQUIRE (R129). -/
  inWindow : Nat
  /-- The miss count of LOCKED (R132). -/
  misses : Nat
  /-- The consecutive in-window intervals of HOLDOVER, oldest first; the relock count is their number (R134, R124). -/
  relockRun : List Int
  acquireTimer : Timer
  holdoverTimer : Timer
  /-- The refused set (R126). -/
  refused : List Port
  predecessor : Option Predecessor
deriving DecidableEq, Repr

/-! ### The port links (chapter 8) -/

/-- The state of a lane (R142). -/
inductive LaneState where
  | down
  | syncing
  | up
deriving DecidableEq, Repr

/-- The lane status record (R144). -/
structure LaneStatus where
  headerValid : Bool
  crcError : Bool
  lengthError : Bool
  countError : Bool
  copyTaken : Bool
deriving DecidableEq, Repr

/-- The header of the copy in progress, as judged at its arrival (R141). -/
structure ArrivedHeader where
  count : Byte
  requests : Byte
  valid : Bool
  countError : Bool
deriving DecidableEq, Repr

/-- A copy in progress: its header, once its fourth byte has arrived (R141). -/
structure CopyInProgress where
  header : Option ArrivedHeader
deriving DecidableEq, Repr

/-- What the port link keeps for a lane (R142, R144); `copy` is `none` before the first copy start and after a signal
loss (R141); `sent` is the bytes of the last downlink copy sent on the lane (R152). -/
structure Lane where
  state : LaneState
  validCount : Nat
  missCount : Nat
  previous : Option Byte
  missTimer : Timer
  status : LaneStatus
  copy : Option CopyInProgress
  sent : List Byte
deriving DecidableEq, Repr

/-- The attach states of a port (R146). -/
inductive Attach where
  | absent
  | attached
  | detached
deriving DecidableEq, Repr

/-- The fields of a request frame, less its CRC (8.8.1). -/
structure Request where
  kind : Byte
  target : Byte
  a : Half
  b : Half
deriving DecidableEq, Repr

/-- The outcomes of a request (R155). -/
inductive OutcomeCode where
  | done
  | clamped
  | queued
  | already
  | notHolder
  | contested
  | linkedOdd
  | badTarget
  | badValue
  | pending
  | bandwidth
  | setupOnly
  | unknown
deriving DecidableEq, Repr

/-- A response, less its CRC (8.8.3). -/
structure Response where
  kind : Byte
  target : Byte
  outcome : OutcomeCode
  position : Nat
  value : Int
deriving DecidableEq, Repr

/-- One value of a slot in its format (R89); FLT32 as the 32 bits of R153. -/
inductive SlotValue where
  | fix16 (v : Int)
  | fix24 (v : Int)
  | flt32 (bits : BitVec 32)
deriving DecidableEq, Repr

/-- The downlink header's fields (8.8.4, R164, R165). -/
structure Header where
  cycleCount : Byte
  rate : Rate
  clock : ClockState
  setup : Bool
  storeDirty : Bool
  overrun : Bool
  commitPending : Bool
  primaryState : LaneState
  primaryStatus : LaneStatus
  secondaryState : LaneState
  secondaryStatus : LaneStatus
  laneLastUsed : Option LaneId
  generation : Byte
  holdings : Vector Bool 32
  waiting : Vector Bool 32
  watchWord : Vector Bool 8
  faultWord : Vector Bool 8
  groupStates : Vector PhantomState 8
  groupSenses : Vector Sense 8
  responseCount : Nat
deriving DecidableEq, Repr

/-- The input digest's fields (8.8.4, R166, R167). -/
structure Digest where
  input : InputNo
  holder : Option Port
  queue : List Port
  linked : Bool
  gainTarget : Nat
  report : InputReport
  record : CompRecord
  clip : Bool
  void : Bool
  ovl : Bool
deriving DecidableEq, Repr

/-- A downlink copy (R152): header and digest, audio segment, control window. -/
structure DownlinkCopy where
  header : Header
  digest : Digest
  blocks : List (List SlotValue)
  responses : List Response
deriving DecidableEq, Repr

/-- What the port link keeps for a port (R145 to R152). `downlink` is the last downlink copy formed in this run. -/
structure PortLink where
  primary : Lane
  secondary : Lane
  attach : Attach
  graceTimer : Timer
  lastTaken : Option Byte
  laneLastUsed : Option LaneId
  requests : List Request
  responses : List Response
  overrun : Bool
  downlink : Option DownlinkCopy
deriving DecidableEq, Repr

/-! ### The watch unit (chapter 9) -/

/-- A relation mask (R157). -/
structure RelationMask where
  less : Bool
  equal : Bool
  greater : Bool
  void : Bool
deriving DecidableEq, Repr

/-- A watch (R157); the threshold in qdB. -/
structure Watch where
  input : InputNo
  mask : RelationMask
  latch : Bool
  strict : Bool
  threshold : Int
  level : Nat
  condition : Bool
  latched : Bool
  fault : Bool
deriving DecidableEq, Repr

/-! ### The settings store (chapter 10) -/

/-- The settings record (section 10.2). -/
structure Settings where
  rate : Rate
  clockList : List Port
  window : Nat
  senior : Option Port
deriving DecidableEq, Repr

/-- The stored front-end record (R18, R70, R170; log entry 4). -/
structure StoredFrontEnd where
  steps : Vector Nat 32
  pads : Vector Bool 32
  modes : Vector Mode 32
  phantom : Vector Bool 8
  linked : Vector Bool 16
deriving DecidableEq, Repr

/-- The last completed copy of the settings record in storage; `sound` while its CRC checks (chapter 10, R173). -/
structure SettingsCopy where
  record : Settings
  sound : Bool
deriving DecidableEq, Repr

/-- The last completed copy of the front-end record in storage; `sound` while its CRC checks (chapter 10, R173). -/
structure FrontEndCopy where
  record : StoredFrontEnd
  sound : Bool
deriving DecidableEq, Repr

/-- A write of the settings record in flight; `again` when a further change was taken during it (R169). -/
structure SettingsWrite where
  record : Settings
  again : Bool
deriving DecidableEq, Repr

/-- A write of the front-end record in flight; `changed` when a change arrived since it began (R171). -/
structure FrontEndWrite where
  record : StoredFrontEnd
  changed : Bool
deriving DecidableEq, Repr

/-- The settings store's state: the settings in force and the working copy of the front-end record, the last completed
copies in storage, the writes in flight, the dirty flag with its timers, the switch position, and the port whose
FACTORY response begins the restart when it leaves (R170). -/
structure Store where
  settings : Settings
  frontEnd : StoredFrontEnd
  settingsCopy : SettingsCopy
  frontEndCopy : FrontEndCopy
  settingsWrite : Option SettingsWrite
  frontEndWrite : Option FrontEndWrite
  dirty : Bool
  quietTimer : Timer
  ceilingTimer : Timer
  position : SwitchPosition
  factoryPort : Option Port
deriving DecidableEq, Repr

/-! ### The part -/

/-- Where the part stands in its run: without power, running, or in the restart after FACTORY, waiting for the writes
in flight and then writing the default settings and the default front-end record (R170). -/
inductive Phase where
  | off
  | running
  | restartWaits
  | restartSettings
  | restartFrontEnd
deriving DecidableEq, Repr

/-- The machine. `pending` is the queue of commands, first in first out; `draws` counts the free values drawn (the
model's own field, log entry 6); `cycleCount` is `none` before the first cycle of a run (R156). -/
structure State where
  pending : List Instr
  phase : Phase
  draws : Nat
  cycleCount : Option Byte
  frontEnd : FrontEnd
  arbiter : Arbiter
  level : LevelEngine
  maps : Vector PortMaps 4
  clock : Clock
  links : Vector PortLink 4
  watches : Vector (Vector Watch 8) 4
  store : Store
deriving DecidableEq, Repr

/-! ### Reset -/

/-- The defaults of section 10.2. -/
def Settings.defaults : Settings := { rate := .khz48, clockList := [0, 1, 2, 3], window := 4, senior := none }

/-- The front-end defaults of R170: step 20, pad off, MIC, phantom off, every pair unlinked. -/
def StoredFrontEnd.defaults : StoredFrontEnd where
  steps := .fill fun _ => 20
  pads := .fill fun _ => false
  modes := .fill fun _ => .mic
  phantom := .fill fun _ => false
  linked := .fill fun _ => false

/-- No cause of voidness (R24). -/
def VoidCauses.none : VoidCauses := { settle := false, modeTimer := false, group := false, clock := false }

/-- An input at start with the default stored values (R24). -/
def Preamp.reset : Preamp where
  gainTarget := 20
  gainActual := 20
  padRequested := false
  padInEffect := false
  modeRequested := .mic
  modeInEffect := .mic
  settle := 0
  modeTimer := none
  causes := .none
  phantomReached := false
  effective := 20
  lastPeak := none
  overload := false

/-- The hand-over of a cycle before the first (log entry 8). -/
def InputReport.reset : InputReport where
  gainActual := 20
  padInEffect := false
  modeInEffect := .mic
  phantomApplied := false
  causes := .none
  lastPeak := none

/-- A group that starts in OFF (R24), its sense level LOW (log entry 3). -/
def PhantomGroup.reset : PhantomGroup where
  state := .off
  sense := .low
  chargeTimer := none
  dischargeTimer := none
  lowSenseTimer := none
  faultVoidTimer := none

/-- A record at start (R69): the anchor is the input's effective gain, 20 dB for the default step. -/
def CompRecord.reset : CompRecord := { anchor := 20, trim := 0, mute := false, compLimited := false, applied := 0 }

/-- A port's maps at start (R119). -/
def PortMaps.reset : PortMaps where
  live := .fill fun _ => none
  draft := .fill fun _ => none
  generation := 0
  commitPending := false

/-- Every indication clear (R156). -/
def LaneStatus.clear : LaneStatus where
  headerValid := false
  crcError := false
  lengthError := false
  countError := false
  copyTaken := false

/-- A lane at start (R156). -/
def Lane.reset : Lane where
  state := .down
  validCount := 0
  missCount := 0
  previous := none
  missTimer := none
  status := .clear
  copy := none
  sent := []

/-- A port link at start (R156). -/
def PortLink.reset : PortLink where
  primary := .reset
  secondary := .reset
  attach := .absent
  graceTimer := none
  lastTaken := none
  laneLastUsed := none
  requests := []
  responses := []
  overrun := false
  downlink := none

/-- A watch at its power-on values (R163). -/
def Watch.reset : Watch where
  input := 0
  mask := { less := false, equal := false, greater := false, void := false }
  latch := false
  strict := false
  threshold := 0
  level := 8388608
  condition := false
  latched := false
  fault := false

/-- The clock tracker at start (R139). -/
def Clock.reset : Clock where
  state := .free
  rate := .khz48
  length := 32768
  history := []
  inWindow := 0
  misses := 0
  relockRun := []
  acquireTimer := none
  holdoverTimer := none
  refused := []
  predecessor := none

/-- The store at start with default records in storage (R173; log entry 1). -/
def Store.reset : Store where
  settings := .defaults
  frontEnd := .defaults
  settingsCopy := { record := .defaults, sound := true }
  frontEndCopy := { record := .defaults, sound := true }
  settingsWrite := none
  frontEndWrite := none
  dirty := false
  quietTimer := none
  ceilingTimer := none
  position := .run
  factoryPort := none

/-- The machine right after a power-on that finds the default records in storage (R24, R50, R69, R83, R102, R119, R139,
R156, R163, R173). -/
def State.reset : State where
  pending := []
  phase := .running
  draws := 0
  cycleCount := none
  frontEnd :=
    { inputs := .fill fun _ => .reset
      groups := .fill fun _ => .reset
      ovl := .fill fun _ => .fill fun _ => false
      reports := .fill fun _ => .reset }
  arbiter :=
    { holdings := .fill fun _ => { holder := none, queue := [] }
      linked := .fill fun _ => false
      records := .fill fun _ => .fill fun _ => .reset
      handed := .fill fun _ => .fill fun _ => .reset }
  level :=
    { requested := .fill fun _ => .nearest
      inEffect := .fill fun _ => .nearest
      clip := .fill fun _ => .fill fun _ => false
      void := .fill fun _ => .fill fun _ => false
      clipBefore := none
      samples := .fill fun _ => .fill fun _ => 0
      rounding := .fill fun _ => .nearest }
  maps := .fill fun _ => .reset
  clock := .reset
  links := .fill fun _ => .reset
  watches := .fill fun _ => .fill fun _ => .reset
  store := .reset

end Sys2Proof.Machine
end

