-- ==== Sys2Proof/Machine/Ops.lean ====
section
/-! DEFINITION. The shared operations: the numbering of pairs and groups, clamps, the one CRC, reads and writes of the
state's banks, the store's reaction to a change, and the answer to a request. -/

namespace Sys2Proof.Machine

/-! ### Numbering (spec/00_scope.md section 5.1) -/

/-- The even member of a pair. -/
def evenOf (k : PairNo) : InputNo := ⟨2 * k.val, by omega⟩

/-- The odd member of a pair. -/
def oddOf (k : PairNo) : InputNo := ⟨2 * k.val + 1, by omega⟩

/-- The pair an input belongs to. -/
def pairOf (i : InputNo) : PairNo := ⟨i.val / 2, by omega⟩

/-- The phantom group an input belongs to. -/
def groupOf (i : InputNo) : GroupNo := ⟨i.val / 4, by omega⟩

/-- The four inputs of a phantom group. -/
def groupInputs (g : GroupNo) : List InputNo :=
  [⟨4 * g.val, by omega⟩, ⟨4 * g.val + 1, by omega⟩, ⟨4 * g.val + 2, by omega⟩, ⟨4 * g.val + 3, by omega⟩]

/-- All inputs in ascending order. -/
def allInputs : List InputNo := List.finRange 32

/-- All ports in ascending order. -/
def allPorts : List Port := List.finRange 4

/-! ### Clamps (spec/00_scope.md section 5.2) -/

/-- `x` clamped to `lo..hi`. -/
def clamp (lo hi x : Int) : Int := if x < lo then lo else if hi < x then hi else x

/-- A gain in qdB clamped to -160 to +96: a trim or an applied digital gain (R51, R52). -/
def clampGain (x : Int) : Int := clamp (-160) 96 x

/-- The effective analog gain: the actual step, less 20 while the pad is on (R1). -/
def effectiveGain (actual : Nat) (pad : Bool) : Int := (actual : Int) - (if pad then 20 else 0)

/-- The nominal cycle length N in ticks at a rate (R120). -/
def nominalCycle : Rate → Nat
  | .khz48 => 32768
  | .khz96 => 16384

/-! ### The CRC (R140) -/

/-- One bit through the CRC register: x^16 + x^12 + x^5 + 1. -/
def crcBit (reg : BitVec 16) (bit : Bool) : BitVec 16 :=
  if reg.msb != bit then (reg <<< 1) ^^^ 0x1021#16 else reg <<< 1

/-- One byte through the CRC register, most significant bit first. -/
def crcByte (reg : BitVec 16) (b : Byte) : BitVec 16 :=
  [7, 6, 5, 4, 3, 2, 1, 0].foldl (fun r k => crcBit r (b.getLsbD k)) reg

/-- The CRC-16 over bytes: the register starts at 0xFFFF, and no final inversion is applied. -/
def crc16 (bytes : List Byte) : BitVec 16 := bytes.foldl crcByte 0xFFFF#16

/-! ### Bytes of multi-byte fields, most significant byte first (R153) -/

def bytesOf16 (x : BitVec 16) : List Byte := [x.extractLsb' 8 8, x.extractLsb' 0 8]

def bytesOf24 (x : BitVec 24) : List Byte := [x.extractLsb' 16 8, x.extractLsb' 8 8, x.extractLsb' 0 8]

def bytesOf32 (x : BitVec 32) : List Byte :=
  [x.extractLsb' 24 8, x.extractLsb' 16 8, x.extractLsb' 8 8, x.extractLsb' 0 8]

/-- A signed number as a two-byte field. -/
def bytesOfInt16 (x : Int) : List Byte := bytesOf16 (BitVec.ofInt 16 x)

/-- A mask as one number, bit `i` for entry `i`. -/
def maskValue {n : Nat} (v : Vector Bool n) : Nat :=
  (List.finRange n).foldl (fun acc i => if v.pick i then acc + 2 ^ i.val else acc) 0

/-- The bytes followed by their CRC (R140). -/
def withCrc (bytes : List Byte) : List Byte := bytes ++ bytesOf16 (crc16 bytes)

/-! ### Reads and writes of the banks -/

def State.input (s : State) (i : InputNo) : Preamp := s.frontEnd.inputs.pick i

def State.setInput (s : State) (i : InputNo) (x : Preamp) : State :=
  { s with frontEnd := { s.frontEnd with inputs := s.frontEnd.inputs.put i x } }

def State.group (s : State) (g : GroupNo) : PhantomGroup := s.frontEnd.groups.pick g

def State.setGroup (s : State) (g : GroupNo) (x : PhantomGroup) : State :=
  { s with frontEnd := { s.frontEnd with groups := s.frontEnd.groups.put g x } }

def State.holding (s : State) (i : InputNo) : Holding := s.arbiter.holdings.pick i

def State.setHolding (s : State) (i : InputNo) (h : Holding) : State :=
  { s with arbiter := { s.arbiter with holdings := s.arbiter.holdings.put i h } }

def State.record (s : State) (q : Port) (i : InputNo) : CompRecord := (s.arbiter.records.pick q).pick i

def State.setRecord (s : State) (q : Port) (i : InputNo) (r : CompRecord) : State :=
  { s with arbiter := { s.arbiter with
      records := s.arbiter.records.put q ((s.arbiter.records.pick q).put i r) } }

def State.linked (s : State) (k : PairNo) : Bool := s.arbiter.linked.pick k

def State.setLinked (s : State) (k : PairNo) (b : Bool) : State :=
  { s with arbiter := { s.arbiter with linked := s.arbiter.linked.put k b } }

def State.port (s : State) (p : Port) : PortLink := s.links.pick p

def State.setPort (s : State) (p : Port) (l : PortLink) : State := { s with links := s.links.put p l }

def State.mapsOf (s : State) (p : Port) : PortMaps := s.maps.pick p

def State.setMaps (s : State) (p : Port) (m : PortMaps) : State := { s with maps := s.maps.put p m }

def State.watch (s : State) (p : Port) (w : WatchNo) : Watch := (s.watches.pick p).pick w

def State.setWatch (s : State) (p : Port) (w : WatchNo) (x : Watch) : State :=
  { s with watches := s.watches.put p ((s.watches.pick p).put w x) }

/-- A port's lane. -/
def PortLink.lane (l : PortLink) : LaneId → Lane
  | .primary => l.primary
  | .secondary => l.secondary

def PortLink.setLane (l : PortLink) : LaneId → Lane → PortLink
  | .primary, x => { l with primary := x }
  | .secondary, x => { l with secondary := x }

/-! ### Holding (R25) -/

/-- Whether the input is the odd member of a linked pair. -/
def State.isLinkedOdd (s : State) (i : InputNo) : Bool := i.val % 2 == 1 && s.linked (pairOf i)

/-- The holding unit an input belongs to: the even member of its linked pair, or the input itself (R25). -/
def State.unitOf (s : State) (i : InputNo) : InputNo := if s.linked (pairOf i) then evenOf (pairOf i) else i

/-- The member inputs of the unit kept on `u` (R25). -/
def State.members (s : State) (u : InputNo) : List InputNo :=
  if s.linked (pairOf u) then [evenOf (pairOf u), oddOf (pairOf u)] else [u]

/-- Whether the port holds the unit of the input: the gain arbiter's answer of R43. -/
def State.holds (s : State) (p : Port) (i : InputNo) : Bool := (s.holding (s.unitOf i)).holder == some p

/-- The port's standing in the unit: 0 when it holds, its position when it waits, -1 otherwise (R38). -/
def State.standing (s : State) (p : Port) (u : InputNo) : Int :=
  let h := s.holding u
  if h.holder = some p then 0
  else if p ∈ h.queue then ((h.queue.idxOf p : Nat) : Int) + 1
  else -1

/-! ### The store's reaction to a change of a stored front-end value (R171) -/

/-- A change enters the working copy, sets the dirty flag and restarts the quiet timer; the ceiling timer is started by
the first change of a clean store and by the first change since a running write began (R171). -/
def Store.noteChange (st : Store) (edited : StoredFrontEnd) : Store :=
  let first := match st.frontEndWrite with
    | some w => !w.changed
    | none => !st.dirty
  { st with
    frontEnd := edited
    dirty := true
    quietTimer := some Config.twoSeconds
    ceilingTimer := if first then some Config.tenSeconds else st.ceilingTimer
    frontEndWrite := st.frontEndWrite.map fun w => { w with changed := true } }

/-- The state whose store has taken a change. -/
def State.noteChange (s : State) (edited : StoredFrontEnd) : State := { s with store := s.store.noteChange edited }

/-! ### Answers -/

/-- What the owning block decides of a request: outcome, position and value (R150, R155). -/
structure Reply where
  outcome : OutcomeCode
  position : Nat := 0
  value : Int := 0
deriving DecidableEq, Repr

/-- BAD_TARGET: every such response carries value 0 (R155). -/
def Reply.badTarget : Reply := { outcome := .badTarget }

/-- The response to a request: kind and target echoed (R155). -/
def Reply.toResponse (r : Request) (y : Reply) : Response :=
  { kind := r.kind, target := r.target, outcome := y.outcome, position := y.position, value := y.value }

/-- Appends a response at the back of the port's response queue (R150). -/
def State.appendResponse (s : State) (p : Port) (x : Response) : State :=
  s.setPort p { s.port p with responses := (s.port p).responses ++ [x] }

/-- The command acts while the part runs, and changes nothing otherwise (log entry 5). -/
def State.whenRunning (s : State) (t : State) : State := if s.phase = .running then t else s

end Sys2Proof.Machine
end

