-- ==== Sys2Proof/Machine/Flags.lean ====
section
/-! DEFINITION. The flags the manual computes: void and its causes, overload, comp-limited, saturation's limits, a
watch's relation and condition, and the flag bytes of the downlink (8.8.4). -/

namespace Sys2Proof.Machine

/-- The supply reaches MIC inputs: CHARGING or ON (R7). It is also the group's phantom requested. -/
def PhantomState.live : PhantomState → Bool
  | .charging | .on => true
  | .off | .discharging | .fault => false

/-- An input is void when one or more causes hold (R19). -/
def VoidCauses.any (c : VoidCauses) : Bool := c.settle || c.modeTimer || c.group || c.clock

/-- The input is void in the current cycle (R19). -/
def Preamp.void (x : Preamp) : Bool := x.causes.any

/-- The group cause for an input in a mode (R19). -/
def groupCause (g : PhantomGroup) (m : Mode) : Bool :=
  m == .mic && (g.state == .charging || g.state == .discharging || g.faultVoidTimer.isSome)

/-- The magnitude of a sample, 0 to 8,388,608 (R22). -/
def magnitude (x : Sample) : Nat := x.toInt.natAbs

/-- The peak of 64 samples (R22). -/
def peakOf (v : Vector Sample 64) : Nat := v.toList.foldl (fun m x => max m (magnitude x)) 0

/-- Whether any of 64 samples equals +8,388,607 or -8,388,608 (R23). -/
def overloads (v : Vector Sample 64) : Bool := v.toList.any fun x => x.toInt == 8388607 || x.toInt == -8388608

/-- The unclamped applied digital gain of a non-holder (R52). -/
def CompRecord.unclamped (r : CompRecord) (e : Int) : Int := r.trim + 4 * (r.anchor - e)

/-- The record with its applied digital gain and comp-limited flag recomputed on `e` (R52, R53). -/
def CompRecord.recompute (r : CompRecord) (holds : Bool) (e : Int) : CompRecord :=
  if holds then { r with applied := r.trim, compLimited := false }
  else { r with applied := clampGain (r.unclamped e), compLimited := decide (clampGain (r.unclamped e) ≠ r.unclamped e) }

/-- A watch is enabled while its mask holds a relation (R157). -/
def RelationMask.nonempty (m : RelationMask) : Bool := m.less || m.equal || m.greater || m.void

def Watch.enabled (w : Watch) : Bool := w.mask.nonempty

/-- The condition of a watch for a peak, `none` for void: the relation found is in the mask (R159, R160). -/
def Watch.found (w : Watch) : Option Nat → Bool
  | none => w.mask.void
  | some peak => if peak < w.level then w.mask.less else if peak = w.level then w.mask.equal else w.mask.greater

/-- A watch's bit of the watch word (R160). -/
def Watch.bit (w : Watch) : Bool := w.enabled && (if w.latch then w.latched else w.condition)

/-- The watch word of a port (R160). -/
def State.watchWord (s : State) (p : Port) : Vector Bool 8 := .fill fun w => (s.watch p w).bit

/-- The watch fault word of a port (R161). -/
def State.faultWord (s : State) (p : Port) : Vector Bool 8 := .fill fun w => (s.watch p w).fault

/-- A byte from its eight bits, bit 0 first. -/
def flagByte (bits : List Bool) : Byte :=
  BitVec.ofNat 8 (bits.zipIdx.foldl (fun acc x => if x.1 then acc + 2 ^ x.2 else acc) 0)

/-- The code of a lane state (8.8.4). -/
def LaneState.code : LaneState → Byte
  | .down => 0
  | .syncing => 1
  | .up => 2

/-- The lane status byte (8.8.4). -/
def laneStatusByte (st : LaneState) (r : LaneStatus) : Byte :=
  st.code ||| flagByte [false, false, r.headerValid, r.crcError, r.lengthError, r.countError, r.copyTaken]

end Sys2Proof.Machine
end

