-- ==== Sys2Proof/Machine/Operands.lean ====
section
/-! DEFINITION. Every operand form: targets, on-off operands, steps, trims, thresholds, slot entries, rounding modes,
watch options and setting values; and the codes that frames carry (8.8). -/

namespace Sys2Proof.Machine

/-! ### Targets (R154) -/

def inputTarget (t : Byte) : Option InputNo := if h : t.toNat < 32 then some ⟨t.toNat, h⟩ else none

def groupTarget (t : Byte) : Option GroupNo := if h : t.toNat < 8 then some ⟨t.toNat, h⟩ else none

def pairTarget (t : Byte) : Option PairNo := if h : t.toNat < 16 then some ⟨t.toNat, h⟩ else none

def slotTarget (t : Byte) : Option SlotNo := if h : t.toNat < 32 then some ⟨t.toNat, h⟩ else none

def watchTarget (t : Byte) : Option WatchNo := if h : t.toNat < 8 then some ⟨t.toNat, h⟩ else none

/-! ### Operands -/

/-- 0 or 1; anything else is outside the set. -/
def onOff (a : Half) : Option Bool := if a.toInt = 0 then some false else if a.toInt = 1 then some true else none

/-- 0 (MIC) or 1 (LINE) (R16). -/
def modeOperand (a : Half) : Option Mode :=
  if a.toInt = 0 then some .mic else if a.toInt = 1 then some .line else none

/-- The step of GAIN, clamped to 0 to 60 (R14). -/
def stepOperand (a : Half) : Nat := (clamp 0 60 a.toInt).toNat

/-- Whether an operand was brought into its range (R14, R60, R158). -/
def clampedOutcome (lo hi : Int) (a : Half) : OutcomeCode :=
  if clamp lo hi a.toInt = a.toInt then .done else .clamped

/-- The format of a SLOT by its code (R105). -/
def formatOperand (b : Half) : Option Format :=
  if b.toInt = 0 then some .fix16 else if b.toInt = 1 then some .fix24 else if b.toInt = 2 then some .flt32 else none

/-- The input of a SLOT's operand A, when it is 0 to 31 (R105). -/
def slotInput (a : Half) : Option InputNo := if h : a.toNat < 32 then some ⟨a.toNat, h⟩ else none

/-- The rounding mode by its code (R94). -/
def roundingOperand (a : Half) : Option Rounding :=
  if a.toInt = 0 then some .nearest else if a.toInt = 1 then some .towardZero
  else if a.toInt = 2 then some .floor else none

/-- The input in the high byte of a WATCH's operand A, when it is 0 to 31 (R158). -/
def watchInput (a : Half) : Option InputNo := inputTarget (a.extractLsb' 8 8)

/-- The relation mask in bits 3 to 0 of a WATCH's operand A (9.2). -/
def watchMask (a : Half) : RelationMask :=
  { less := a.getLsbD 0, equal := a.getLsbD 1, greater := a.getLsbD 2, void := a.getLsbD 3 }

/-! ### Setting values (10.2, R169) -/

/-- The four nibbles of a CLOCK_LIST operand, the first entry first. -/
def nibbles (a : Half) : List Nat :=
  [(a.extractLsb' 12 4).toNat, (a.extractLsb' 8 4).toNat, (a.extractLsb' 4 4).toNat, (a.extractLsb' 0 4).toNat]

/-- The list of a CLOCK_LIST operand: the entries before the first 0xF nibble. Outside its set when a nibble lies from
4 to 14, a nibble other than 0xF follows a 0xF, or a port appears twice. -/
def clockListOperand (a : Half) : Option (List Port) :=
  let before := (nibbles a).takeWhile (· ≠ 15)
  let after := (nibbles a).dropWhile (· ≠ 15)
  if before.all (· < 4) && after.all (· = 15) && decide before.Nodup then some (before.map (Fin.ofNat 4)) else none

/-- The CLOCK_LIST value of a list: its entries in nibbles from bit 15 down, 0xF where there is none. -/
def clockListValue (l : List Port) : Int :=
  (BitVec.ofNat 16 ((l.map Fin.val ++ [15, 15, 15, 15]).take 4 |>.foldl (fun acc x => acc * 16 + x) 0)).toInt

/-- The rate by its code. -/
def rateOperand (a : Half) : Option Rate :=
  if a.toInt = 0 then some .khz48 else if a.toInt = 1 then some .khz96 else none

def Rate.code : Rate → Nat
  | .khz48 => 0
  | .khz96 => 1

/-- 2, 4, 8 or 16 ticks. -/
def windowOperand (a : Half) : Option Nat :=
  if a.toInt = 2 ∨ a.toInt = 4 ∨ a.toInt = 8 ∨ a.toInt = 16 then some a.toNat else none

/-- A port, or -1 for none. -/
def seniorOperand (a : Half) : Option (Option Port) :=
  if a.toInt = -1 then some none else if h : a.toNat < 4 then some (some ⟨a.toNat, h⟩) else none

/-- A port's value, -1 for none. -/
def seniorValue : Option Port → Int
  | none => -1
  | some p => (p.val : Int)

/-! ### Codes of frames -/

def Mode.code : Mode → Nat
  | .mic => 0
  | .line => 1

def Format.code : Format → Nat
  | .fix16 => 0
  | .fix24 => 1
  | .flt32 => 2

def Rounding.code : Rounding → Nat
  | .nearest => 0
  | .towardZero => 1
  | .floor => 2

def PhantomState.code : PhantomState → Nat
  | .off => 0
  | .charging => 1
  | .on => 2
  | .discharging => 3
  | .fault => 4

/-- The outcome codes (R155). -/
def OutcomeCode.code : OutcomeCode → Byte
  | .done => 0
  | .clamped => 1
  | .queued => 2
  | .already => 3
  | .notHolder => 4
  | .contested => 5
  | .linkedOdd => 6
  | .badTarget => 7
  | .badValue => 8
  | .pending => 9
  | .bandwidth => 10
  | .setupOnly => 11
  | .unknown => 12

def boolValue (b : Bool) : Int := if b then 1 else 0

/-- A one-byte port field: 0xFF for none (R153). -/
def portByte : Option Port → Byte
  | none => 0xFF
  | some p => BitVec.ofNat 8 p.val

/-! ### Received frames (8.8.1) -/

/-- A request frame of 8 bytes, when its CRC checks. -/
def parseFrame : List Byte → Option Request
  | [kind, target, aHigh, aLow, bHigh, bLow, crcHigh, crcLow] =>
    if crc16 [kind, target, aHigh, aLow, bHigh, bLow] = crcHigh ++ crcLow then
      some { kind := kind, target := target, a := aHigh ++ aLow, b := bHigh ++ bLow }
    else none
  | _ => none

/-- The request frames of a copy, in order, when the CRC of every one checks (R141). -/
def parseFrames : Nat → List Byte → Option (List Request)
  | 0, _ => some []
  | n + 1, bytes =>
    match parseFrame (bytes.take 8), parseFrames n (bytes.drop 8) with
    | some r, some rest => some (r :: rest)
    | _, _ => none

end Sys2Proof.Machine
end

