-- ==== Sys2Proof/Machine/FrontEnd.lean ====
section
/-! DEFINITION. Chapter 1: gain moves, pads, modes, phantom groups, voidness, samples and peaks; the decisions of GAIN,
PAD, MODE and PHANTOM; and the front end's own events. -/

namespace Sys2Proof.Machine

/-! ### An input at a cycle start (R1 to R7, R19, R20) -/

/-- One step from `a` toward `t` (R2). -/
def stepToward (a t : Nat) : Nat := if a < t then a + 1 else if t < a then a - 1 else a

/-- The gain actual moves (R2). -/
def Preamp.move (x : Preamp) : Preamp := { x with gainActual := stepToward x.gainActual x.gainTarget }

/-- A pending pad change takes effect and starts a settle (R3). -/
def Preamp.takePad (x : Preamp) : Preamp :=
  if x.padRequested = x.padInEffect then x
  else { x with padInEffect := x.padRequested, settle := Config.settleCycles }

/-- The duration of the mode timer for a change to a mode in a live group (R5). -/
def modeTicks : Mode → Nat
  | .mic => Config.chargeTicks
  | .line => Config.dischargeTicks

/-- A pending mode change takes effect: the mode timer in a group in CHARGING or ON, a settle in any other (R5, R6). -/
def Preamp.takeMode (x : Preamp) (g : PhantomState) : Preamp :=
  if x.modeRequested = x.modeInEffect then x
  else if g.live then { x with modeInEffect := x.modeRequested, modeTimer := some (modeTicks x.modeRequested) }
  else { x with modeInEffect := x.modeRequested, settle := Config.settleCycles }

/-- The settle count is looked at and counted down (R4), and the causes of voidness are fixed for the cycle (R19). -/
def Preamp.fixVoid (x : Preamp) (g : PhantomGroup) (acquiring : Bool) : Preamp :=
  { x with
    causes :=
      { settle := decide (0 < x.settle)
        modeTimer := x.modeTimer.isSome
        group := groupCause g x.modeInEffect
        clock := acquiring }
    settle := x.settle - 1 }

/-- The effective analog gain is fixed (R1), and whether phantom reaches the input as the cycle starts (R7). -/
def Preamp.fixGain (x : Preamp) (g : PhantomState) : Preamp :=
  { x with
    effective := effectiveGain x.gainActual x.padInEffect
    phantomReached := x.modeInEffect == .mic && g.live }

/-- An input brought into a new cycle, in the order of R1. -/
def Preamp.startCycle (x : Preamp) (g : PhantomGroup) (acquiring : Bool) : Preamp :=
  (((x.move.takePad).takeMode g.state).fixVoid g acquiring).fixGain g.state

/-- The store takes a change of pad in effect or mode in effect of one input (R18). -/
def Store.noteInput (st : Store) (i : InputNo) (before after : Preamp) : Store :=
  let st := if before.padInEffect = after.padInEffect then st
    else st.noteChange { st.frontEnd with pads := st.frontEnd.pads.put i after.padInEffect }
  if before.modeInEffect = after.modeInEffect then st
  else st.noteChange { st.frontEnd with modes := st.frontEnd.modes.put i after.modeInEffect }

/-- The clock tracker's state is ACQUIRE (R137). -/
def ClockState.acquiring : ClockState → Bool
  | .acquire _ => true
  | .free | .locked _ | .holdover _ => false

/-- The input `i` as the cycle that starts now finds it. -/
def State.startedInput (s : State) (i : InputNo) : Preamp :=
  (s.input i).startCycle (s.group (groupOf i)) s.clock.state.acquiring

/-- The front end's work of a cycle start: every input, and the changes handed to the store (R1, R18). -/
def State.startFrontEnd (s : State) : State :=
  { s with
    frontEnd := { s.frontEnd with inputs := .fill s.startedInput }
    store := allInputs.foldl (fun st i => st.noteInput i (s.input i) (s.startedInput i)) s.store }

/-! ### The end of a cycle (R21 to R23) -/

/-- The peak and overload of the cycle just ended; a void cycle has neither (R22, R23). -/
def Preamp.endCycle (x : Preamp) (v : Vector Sample 64) : Preamp :=
  if x.void then { x with lastPeak := none, overload := false }
  else { x with lastPeak := some (peakOf v), overload := overloads v }

/-- What the front end hands over of the cycle just ended (R166, R167). -/
def Preamp.report (x : Preamp) : InputReport where
  gainActual := x.gainActual
  padInEffect := x.padInEffect
  modeInEffect := x.modeInEffect
  phantomApplied := x.phantomReached
  causes := x.causes
  lastPeak := x.lastPeak

/-- The front end's work of a cycle end: peaks, overload, the OVL stickies of every port, and the hand-over. -/
def State.endFrontEnd (s : State) (samples : CycleSamples) : State :=
  let ended := fun i => (s.input i).endCycle (samples.pick i)
  { s with frontEnd := { s.frontEnd with
      inputs := .fill ended
      ovl := .fill fun p => .fill fun i => (s.frontEnd.ovl.pick p).pick i || (ended i).overload
      reports := .fill fun i => (ended i).report } }

/-! ### Changes of requested values -/

/-- The input's gain target becomes `step`; a change is handed to the store (R14, R18). -/
def State.setGainTarget (s : State) (i : InputNo) (step : Nat) : State :=
  if (s.input i).gainTarget = step then s
  else (s.setInput i { s.input i with gainTarget := step }).noteChange
    { s.store.frontEnd with steps := s.store.frontEnd.steps.put i step }

/-- The input's pad requested becomes `on` (R15). -/
def State.requestPad (s : State) (i : InputNo) (on : Bool) : State :=
  s.setInput i { s.input i with padRequested := on }

/-- The input's mode requested becomes `m` (R16). -/
def State.requestMode (s : State) (i : InputNo) (m : Mode) : State :=
  s.setInput i { s.input i with modeRequested := m }

/-! ### Phantom groups (R8 to R11, R17, R18) -/

/-- The group takes PHANTOM on: the first column of the table in section 1.5. -/
def PhantomGroup.turnOn (g : PhantomGroup) : PhantomGroup :=
  match g.state with
  | .off | .fault => { g with state := .charging, chargeTimer := some Config.chargeTicks }
  | .discharging =>
    { g with state := .charging, dischargeTimer := none, chargeTimer := some Config.chargeTicks }
  | .charging | .on => g

/-- The group takes PHANTOM off: the second column of the table in section 1.5. -/
def PhantomGroup.turnOff (g : PhantomGroup) : PhantomGroup :=
  match g.state with
  | .charging =>
    { g with state := .discharging, chargeTimer := none, dischargeTimer := some Config.dischargeTicks }
  | .on =>
    { g with state := .discharging, lowSenseTimer := none, dischargeTimer := some Config.dischargeTicks }
  | .fault => { g with state := .off }
  | .off | .discharging => g

/-- Entry to FAULT: the supply is cut and the fault-void timer started (R11). -/
def PhantomGroup.enterFault (g : PhantomGroup) : PhantomGroup :=
  { g with state := .fault, chargeTimer := none, lowSenseTimer := none,
           faultVoidTimer := some Config.dischargeTicks }

/-- Entry to ON: the low-sense timer is stopped, or started at once if the sense level is LOW (R9). -/
def PhantomGroup.enterOn (g : PhantomGroup) : PhantomGroup :=
  { g with state := .on, chargeTimer := none,
           lowSenseTimer := if g.sense = .low then some Config.lowSenseTicks else none }

/-- The charge timer of a group in CHARGING expires (R8). -/
def PhantomGroup.chargeExpired (g : PhantomGroup) : PhantomGroup :=
  if g.state = .charging ∧ g.chargeTimer.isSome then
    if g.sense = .ok then g.enterOn else g.enterFault
  else g

/-- The discharge timer of a group in DISCHARGING expires (R10). -/
def PhantomGroup.dischargeExpired (g : PhantomGroup) : PhantomGroup :=
  if g.state = .discharging ∧ g.dischargeTimer.isSome then { g with state := .off, dischargeTimer := none } else g

/-- The low-sense timer of a group in ON expires (R9). -/
def PhantomGroup.lowSenseExpired (g : PhantomGroup) : PhantomGroup :=
  if g.state = .on ∧ g.lowSenseTimer.isSome then g.enterFault else g

/-- The sense level changes; in ON this starts or stops the low-sense timer (R9, R12). -/
def PhantomGroup.sensed (g : PhantomGroup) (level : Sense) : PhantomGroup :=
  if g.sense = level then g
  else if g.state = .on then
    { g with sense := level, lowSenseTimer := if level = .low then some Config.lowSenseTicks else none }
  else { g with sense := level }

/-- Phantom reaches the MIC inputs of a group in CHARGING or ON in the current cycle (R7). -/
def State.reachInput (s : State) (i : InputNo) : State :=
  if (s.input i).modeInEffect = .mic then s.setInput i { s.input i with phantomReached := true } else s

/-- The group becomes `x`: a change of its phantom requested is handed to the store (R18), and phantom is noted to have
reached its MIC inputs where the new state supplies them (R7). -/
def State.changeGroup (s : State) (g : GroupNo) (x : PhantomGroup) : State :=
  let t := s.setGroup g x
  let t := if x.state.live then (groupInputs g).foldl State.reachInput t else t
  if (s.group g).state.live = x.state.live then t
  else t.noteChange { t.store.frontEnd with phantom := t.store.frontEnd.phantom.put g x.state.live }

/-! ### The analog requests (R13 to R17) -/

/-- GAIN (R13, R14, R77). -/
def decideGain (p : Port) (target : Byte) (a : Half) (s : State) : State × Reply :=
  match inputTarget target with
  | none => (s, .badTarget)
  | some i =>
    let current : Int := (s.input i).gainTarget
    if s.isLinkedOdd i then (s, { outcome := .linkedOdd, value := current })
    else if !s.holds p i then (s, { outcome := .notHolder, value := current })
    else ((s.members i).foldl (fun t j => t.setGainTarget j (stepOperand a)) s,
      { outcome := clampedOutcome 0 60 a, value := (stepOperand a : Nat) })

/-- PAD (R13, R15, R77). -/
def decidePad (p : Port) (target : Byte) (a : Half) (s : State) : State × Reply :=
  match inputTarget target with
  | none => (s, .badTarget)
  | some i =>
    let current := boolValue (s.input i).padRequested
    if s.isLinkedOdd i then (s, { outcome := .linkedOdd, value := current })
    else match onOff a with
      | none => (s, { outcome := .badValue, value := current })
      | some on =>
        if !s.holds p i then (s, { outcome := .notHolder, value := current })
        else ((s.members i).foldl (fun t j => t.requestPad j on) s, { outcome := .done, value := boolValue on })

/-- MODE (R13, R16, R77). -/
def decideMode (p : Port) (target : Byte) (a : Half) (s : State) : State × Reply :=
  match inputTarget target with
  | none => (s, .badTarget)
  | some i =>
    let current : Int := (s.input i).modeRequested.code
    if s.isLinkedOdd i then (s, { outcome := .linkedOdd, value := current })
    else match modeOperand a with
      | none => (s, { outcome := .badValue, value := current })
      | some m =>
        if !s.holds p i then (s, { outcome := .notHolder, value := current })
        else ((s.members i).foldl (fun t j => t.requestMode j m) s, { outcome := .done, value := (m.code : Nat) })

/-- An input of the group has a holder other than the port (R17, R43). -/
def State.contested (s : State) (p : Port) (g : GroupNo) : Bool :=
  (groupInputs g).any fun i => (s.holding i).holder.isSome && (s.holding i).holder != some p

/-- PHANTOM (R17). -/
def decidePhantom (p : Port) (target : Byte) (a : Half) (s : State) : State × Reply :=
  match groupTarget target with
  | none => (s, .badTarget)
  | some g =>
    let x := s.group g
    match onOff a with
    | none => (s, { outcome := .badValue, value := (x.state.code : Nat) })
    | some on =>
      if s.contested p g then (s, { outcome := .contested, value := (x.state.code : Nat) })
      else
        let y := if on then x.turnOn else x.turnOff
        (s.changeGroup g y, { outcome := .done, value := (y.state.code : Nat) })

/-! ### The front end's events -/

/-- MODE_TIMER_EXPIRY: the timer stops; it gives no void from the next cycle start (R6). -/
def execModeTimerExpiry (i : InputNo) (s : State) : Host.Outcome State Fault Refusal :=
  .next (s.whenRunning (s.setInput i { s.input i with modeTimer := none }))

/-- CHARGE_TIMER_EXPIRY: ON if the sense level is OK, FAULT if it is LOW (R8). -/
def execChargeTimerExpiry (g : GroupNo) (s : State) : Host.Outcome State Fault Refusal :=
  .next (s.whenRunning (s.changeGroup g (s.group g).chargeExpired))

/-- DISCHARGE_TIMER_EXPIRY: OFF (R10). -/
def execDischargeTimerExpiry (g : GroupNo) (s : State) : Host.Outcome State Fault Refusal :=
  .next (s.whenRunning (s.changeGroup g (s.group g).dischargeExpired))

/-- LOW_SENSE_TIMER_EXPIRY: FAULT (R9, R11). -/
def execLowSenseTimerExpiry (g : GroupNo) (s : State) : Host.Outcome State Fault Refusal :=
  .next (s.whenRunning (s.changeGroup g (s.group g).lowSenseExpired))

/-- FAULT_VOID_TIMER_EXPIRY: the timer stops; it gives no void from the next cycle start (R11). -/
def execFaultVoidTimerExpiry (g : GroupNo) (s : State) : Host.Outcome State Fault Refusal :=
  .next (s.whenRunning (s.setGroup g { s.group g with faultVoidTimer := none }))

/-- SENSE_CHANGE: the level is measured at all times and in every state; in ON it acts on the low-sense timer (R9, R12;
log entry 3). -/
def execSenseChange (g : GroupNo) (level : Sense) (s : State) : Host.Outcome State Fault Refusal :=
  .next (s.setGroup g ((s.group g).sensed level))

end Sys2Proof.Machine
end

