-- ==== Sys2Proof/Machine/GainHolding.lean ====
section
/-! DEFINITION. Chapters 2 and 3: holders and wait queues, grant and release with the compensation hand-over, the
decisions of CLAIM, YIELD, TRIM and MUTE, the records at each cycle start, and holding under port loss. -/

namespace Sys2Proof.Machine

/-! ### Compensation records (chapter 3) -/

/-- The release of R56: the anchor is frozen at `e`, and the record is a non-holder's. -/
def CompRecord.freeze (r : CompRecord) (e : Int) : CompRecord := { r with anchor := e }.recompute false e

/-- The grant of R57: the trim is re-based with the clamp, the anchor becomes `e`, and the record is the holder's. -/
def CompRecord.rebase (r : CompRecord) (e : Int) : CompRecord :=
  { r with trim := clampGain (r.unclamped e), anchor := e }.recompute true e

/-- A record brought into a cycle: the holder's anchor follows `e` (R52). -/
def CompRecord.startCycle (r : CompRecord) (holds : Bool) (e : Int) : CompRecord :=
  (if holds then { r with anchor := e } else r).recompute holds e

/-- The effective analog gain E_n of an input in the current cycle (R1). -/
def State.effective (s : State) (i : InputNo) : Int := (s.input i).effective

/-- The record of `q` for `i` recomputed on the current cycle's E_n (R54). -/
def State.recompute (s : State) (q : Port) (i : InputNo) (r : CompRecord) : CompRecord :=
  r.recompute (s.holds q i) (s.effective i)

/-- The gain arbiter's work of a cycle start: every record is brought into the cycle (R52). -/
def State.startRecords (s : State) : State :=
  { s with arbiter := { s.arbiter with
      records := .fill fun q => .fill fun i => (s.record q i).startCycle (s.holds q i) (s.effective i) } }

/-- The gain arbiter's hand-over at the end of a cycle (R54). -/
def State.handRecords (s : State) : State := { s with arbiter := { s.arbiter with handed := s.arbiter.records } }

/-! ### Release and grant (R36, R37, R79) -/

/-- The member `j` loses its holder `h`, whose record is frozen at the member's own E_n. -/
def State.releaseMember (s : State) (h : Port) (j : InputNo) : State :=
  (s.setHolding j { s.holding j with holder := none }).setRecord h j ((s.record h j).freeze (s.effective j))

/-- The member `j` takes the holder `q`, whose record is re-based on the member's own E_n. -/
def State.grantMember (s : State) (q : Port) (j : InputNo) : State :=
  (s.setHolding j { s.holding j with holder := some q }).setRecord q j ((s.record q j).rebase (s.effective j))

/-- The wait queue of the unit kept on `u` becomes `queue`. -/
def State.setQueue (s : State) (u : InputNo) (queue : List Port) : State :=
  s.setHolding u { s.holding u with queue := queue }

/-- A release takes the holder `h` from the unit kept on `u` (R37). -/
def State.release (s : State) (u : InputNo) (h : Port) : State :=
  (s.members u).foldl (fun t j => t.releaseMember h j) s

/-- A grant makes `q` the holder of the unit kept on `u` and removes it from the queue (R36). -/
def State.grant (s : State) (u : InputNo) (q : Port) : State :=
  let t := s.setQueue u ((s.holding u).queue.erase q)
  (t.members u).foldl (fun t j => t.grantMember q j) t

/-- A release followed by a grant to the port at position 1, or by none: the unit becomes free (R33). -/
def State.passOn (s : State) (u : InputNo) (h : Port) : State :=
  let t := s.release u h
  match (t.holding u).queue with
  | [] => t
  | q :: _ => t.grant u q

/-- A senior displacement: the holder `h` is released and put at position 1, and `p` is granted (R31). -/
def State.displace (s : State) (u : InputNo) (h p : Port) : State :=
  let t := s.release u h
  (t.setQueue u (h :: (t.holding u).queue)).grant u p

/-- A withdrawal: `p` leaves the queue of the unit, and the entries behind it close up (R34). -/
def State.withdraw (s : State) (u : InputNo) (p : Port) : State := s.setQueue u ((s.holding u).queue.erase p)

/-! ### CLAIM and YIELD (R27 to R38) -/

/-- The answer to a CLAIM or YIELD, with the port's standing after it in the unit (R38). -/
def standingReply (p : Port) (u : InputNo) (t : State) (o : OutcomeCode) (position : Nat) : State × Reply :=
  (t, { outcome := o, position := position, value := t.standing p u })

/-- CLAIM (R27 to R32, R38). -/
def decideClaim (p : Port) (target : Byte) (s : State) : State × Reply :=
  match inputTarget target with
  | none => (s, .badTarget)
  | some i =>
    if s.isLinkedOdd i then standingReply p (s.unitOf i) s .linkedOdd 0
    else
      let u := s.unitOf i
      let h := s.holding u
      match h.holder with
      | none => standingReply p u (s.grant u p) .done 0
      | some holder =>
        if holder = p then standingReply p u s .already 0
        else if s.store.settings.senior = some p then standingReply p u (s.displace u holder p) .done 0
        else if p ∈ h.queue then standingReply p u s .already 0
        else standingReply p u (s.setQueue u (h.queue ++ [p])) .queued (h.queue.length + 1)

/-- YIELD (R27, R33 to R35, R38). -/
def decideYield (p : Port) (target : Byte) (s : State) : State × Reply :=
  match inputTarget target with
  | none => (s, .badTarget)
  | some i =>
    if s.isLinkedOdd i then standingReply p (s.unitOf i) s .linkedOdd 0
    else
      let u := s.unitOf i
      let h := s.holding u
      if h.holder = some p then standingReply p u (s.passOn u p) .done 0
      else if p ∈ h.queue then standingReply p u (s.withdraw u p) .done 0
      else standingReply p u s .notHolder 0

/-! ### TRIM and MUTE (R60, R61, R63, R64, R77) -/

/-- The port's trim for one input is written and its applied digital gain recomputed (R60). -/
def State.writeTrim (s : State) (p : Port) (trim : Int) (i : InputNo) : State :=
  s.setRecord p i (s.recompute p i { s.record p i with trim := trim })

/-- The port's mute for one input is written, and the record recomputed (R54, R63). -/
def State.writeMute (s : State) (p : Port) (on : Bool) (i : InputNo) : State :=
  s.setRecord p i (s.recompute p i { s.record p i with mute := on })

/-- TRIM (R60). -/
def decideTrim (p : Port) (target : Byte) (a : Half) (s : State) : State × Reply :=
  match inputTarget target with
  | none => (s, .badTarget)
  | some i =>
    if s.isLinkedOdd i then (s, { outcome := .linkedOdd, value := (s.record p i).trim })
    else ((s.members i).foldl (fun t j => t.writeTrim p (clampGain a.toInt) j) s,
      { outcome := clampedOutcome (-160) 96 a, value := clampGain a.toInt })

/-- MUTE (R63). -/
def decideMute (p : Port) (target : Byte) (a : Half) (s : State) : State × Reply :=
  match inputTarget target with
  | none => (s, .badTarget)
  | some i =>
    let current := boolValue (s.record p i).mute
    if s.isLinkedOdd i then (s, { outcome := .linkedOdd, value := current })
    else match onOff a with
      | none => (s, { outcome := .badValue, value := current })
      | some on =>
        ((s.members i).foldl (fun t j => t.writeMute p on j) s, { outcome := .done, value := boolValue on })

/-! ### Port loss (R45, R80) -/

/-- The loss handling on the unit kept on `u`; the odd member of a linked pair is handled with its even member. -/
def State.loseUnit (s : State) (p : Port) (u : InputNo) : State :=
  if s.isLinkedOdd u then s
  else
    let t := if (s.holding u).holder = some p then s.passOn u p else s
    t.withdraw u p

/-- The gain arbiter's loss handling of port `p` (R45). -/
def State.loseHoldings (s : State) (p : Port) : State := allInputs.foldl (fun t u => t.loseUnit p u) s

end Sys2Proof.Machine
end

