-- ==== Sys2Proof/Machine/LinkedPairs.lean ====
section
/-! DEFINITION. Chapter 4: the decision of LINK, the conformance of the odd member, and unlinking. -/

namespace Sys2Proof.Machine

/-- The odd member's requested analog state is set to the even member's; a new gain target is handed to the store
(R74). -/
def State.conformAnalog (s : State) (k : PairNo) : State :=
  let e := s.input (evenOf k)
  ((s.setGainTarget (oddOf k) e.gainTarget).requestPad (oddOf k) e.padRequested).requestMode (oddOf k) e.modeRequested

/-- One port's record copied from the even member to the odd member and recomputed on the odd member's E_n; the
holder's anchor is set to that E_n (R75). -/
def State.copiedRecord (s : State) (k : PairNo) (holder q : Port) : CompRecord :=
  let from' := s.record q (evenOf k)
  let e := s.effective (oddOf k)
  let r := { s.record q (oddOf k) with
    trim := from'.trim, mute := from'.mute, anchor := if q = holder then e else from'.anchor }
  r.recompute (q == holder) e

/-- Every port's record is copied (R75). -/
def State.copyRecords (s : State) (k : PairNo) (holder : Port) : State :=
  allPorts.foldl (fun t q => t.setRecord q (oddOf k) (s.copiedRecord k holder q)) s

/-- The link state of a pair changes and the change is handed to the store (R70). -/
def State.changeLink (s : State) (k : PairNo) (on : Bool) : State :=
  (s.setLinked k on).noteChange { s.store.frontEnd with linked := s.store.frontEnd.linked.put k on }

/-- The pair is linked by its holder `p`: link state and holding (R73), analog state (R74), records (R75). -/
def State.linkPair (s : State) (k : PairNo) (p : Port) : State :=
  let t := s.changeLink k true
  let t := t.setHolding (oddOf k) { holder := some p, queue := [] }
  (t.conformAnalog k).copyRecords k p

/-- The pair becomes two units: the odd member keeps the even member's holder, with an empty queue (R76). -/
def State.unlinkPair (s : State) (k : PairNo) : State :=
  (s.changeLink k false).setHolding (oddOf k) { holder := (s.holding (evenOf k)).holder, queue := [] }

/-- Check 4 of LINK on: the odd member has no holder other than the port, and its queue is empty (R71). -/
def State.oddIsClear (s : State) (p : Port) (k : PairNo) : Bool :=
  let h := s.holding (oddOf k)
  (h.holder.isNone || h.holder == some p) && h.queue.isEmpty

/-- LINK (R71 to R76). -/
def decideLink (p : Port) (target : Byte) (a : Half) (s : State) : State × Reply :=
  match pairTarget target with
  | none => (s, .badTarget)
  | some k =>
    let current := boolValue (s.linked k)
    let holder := (s.holding (evenOf k)).holder
    match onOff a with
    | none => (s, { outcome := .badValue, value := current })
    | some true =>
      if holder ≠ some p then (s, { outcome := .notHolder, value := current })
      else if !s.oddIsClear p k then (s, { outcome := .contested, value := current })
      else (if s.linked k then s else s.linkPair k p, { outcome := .done, value := 1 })
    | some false =>
      if holder ≠ some p ∧ holder ≠ none then (s, { outcome := .notHolder, value := current })
      else (if s.linked k then s.unlinkPair k else s, { outcome := .done, value := 0 })

end Sys2Proof.Machine
end

