-- ==== Sys2Proof/Machine/Coefficients.lean ====
section
/-! DEFINITION. The coefficient table of R85: entry C[g] is 2^20 x 10^(g/80) rounded to the nearest integer, for every
applied digital gain g from -160 to +96 qdB. Sys2Proof/Tests/Slice0.lean checks every entry against that law. -/

namespace Sys2Proof.Machine

/-- C[g] for g from -160 to -129. -/
def coefficients0 : List Nat :=
  [10486, 10792, 11107, 11431, 11765, 12109, 12462, 12826,
   13201, 13586, 13983, 14391, 14812, 15244, 15689, 16147,
   16619, 17104, 17604, 18118, 18647, 19191, 19751, 20328,
   20922, 21533, 22162, 22809, 23475, 24160, 24866, 25592]

/-- C[g] for g from -128 to -97. -/
def coefficients1 : List Nat :=
  [26339, 27108, 27900, 28714, 29553, 30416, 31304, 32218,
   33159, 34127, 35124, 36149, 37205, 38291, 39409, 40560,
   41745, 42964, 44218, 45509, 46838, 48206, 49614, 51062,
   52553, 54088, 55667, 57293, 58966, 60688, 62460, 64284]

/-- C[g] for g from -96 to -65. -/
def coefficients2 : List Nat :=
  [66161, 68093, 70081, 72127, 74233, 76401, 78632, 80928,
   83291, 85724, 88227, 90803, 93454, 96183, 98992, 101883,
   104858, 107919, 111071, 114314, 117652, 121088, 124623, 128263,
   132008, 135863, 139830, 143913, 148115, 152440, 156892, 161473]

/-- C[g] for g from -64 to -33. -/
def coefficients3 : List Nat :=
  [166188, 171041, 176035, 181176, 186466, 191911, 197515, 203282,
   209218, 215328, 221615, 228087, 234747, 241602, 248657, 255917,
   263390, 271082, 278997, 287144, 295529, 304158, 313040, 322181,
   331589, 341271, 351237, 361493, 372049, 382913, 394094, 405602]

/-- C[g] for g from -32 to -1. -/
def coefficients4 : List Nat :=
  [417446, 429635, 442181, 455093, 468382, 482059, 496135, 510622,
   525533, 540879, 556673, 572928, 589658, 606876, 624597, 642836,
   661607, 680926, 700809, 721273, 742335, 764012, 786321, 809282,
   832914, 857235, 882267, 908029, 934544, 961834, 989920, 1018826]

/-- C[g] for g from 0 to 31. -/
def coefficients5 : List Nat :=
  [1048576, 1079195, 1110708, 1143141, 1176522, 1210877, 1246235, 1282626,
   1320079, 1358626, 1398299, 1439130, 1481153, 1524403, 1568917, 1614730,
   1661881, 1710409, 1760354, 1811757, 1864661, 1919110, 1975149, 2032825,
   2092184, 2153277, 2216154, 2280867, 2347469, 2416017, 2486566, 2559175]

/-- C[g] for g from 32 to 63. -/
def coefficients6 : List Nat :=
  [2633904, 2710815, 2789972, 2871441, 2955289, 3041585, 3130401, 3221810,
   3315888, 3412714, 3512367, 3614930, 3720488, 3829128, 3940941, 4056018,
   4174456, 4296353, 4421808, 4550927, 4683817, 4820587, 4961351, 5106225,
   5255329, 5408787, 5566727, 5729278, 5896576, 6068759, 6245970, 6428356]

/-- C[g] for g from 64 to 95. -/
def coefficients7 : List Nat :=
  [6616067, 6809260, 7008094, 7212734, 7423350, 7640115, 7863211, 8092821,
   8329135, 8572350, 8822668, 9080294, 9345443, 9618335, 9899196, 10188258,
   10485760, 10791950, 11107080, 11431413, 11765216, 12108767, 12462349, 12826256,
   13200790, 13586260, 13982986, 14391296, 14811530, 15244034, 15689168, 16147300]

/-- C[g] for g from 96 to 96. -/
def coefficients8 : List Nat :=
  [16618810]

/-- The 257 entries, from g = -160 up (R85). -/
def coefficientTable : List Nat :=
  coefficients0 ++ coefficients1 ++ coefficients2 ++ coefficients3 ++ coefficients4 ++ coefficients5 ++ coefficients6 ++ coefficients7 ++ coefficients8

/-- C[g] (R85); every gain the level engine reads lies within the table (R86). -/
def coefficient (g : Int) : Nat := coefficientTable.getD (g + 160).toNat 0

end Sys2Proof.Machine
end

