-- ==== Sys2Proof/Machine/LevelEngine.lean ====
section
/-! DEFINITION. Chapter 5: the exact product, the three slot formats, rounding and saturation, the audio blocks, the
CLIP and VOID stickies, and the decision of ROUND. -/

namespace Sys2Proof.Machine

/-! ### One value (R86 to R92) -/

/-- The coefficient of a port and input: 0 while muted, C[g] otherwise (R86). -/
def CompRecord.coefficient (r : CompRecord) : Nat := if r.mute then 0 else Machine.coefficient r.applied

/-- The exact product of a sample and a coefficient (R88). -/
def product (x : Sample) (c : Nat) : Int := x.toInt * (c : Int)

/-- The quotient `p / d` rounded to the nearer integer, halves to the even one (R90, R92); `d` is positive. -/
def roundNearest (p d : Int) : Int :=
  let q := p / d
  let r := p % d
  if 2 * r < d then q else if d < 2 * r then q + 1 else if q % 2 = 0 then q else q + 1

/-- The quotient `p / d` rounded to an integer by a mode (R90); `d` is positive. -/
def roundQuotient : Rounding → Int → Int → Int
  | .nearest, p, d => roundNearest p d
  | .towardZero, p, d => p.tdiv d
  | .floor, p, d => p / d

/-- FIX16 before saturation (R89). -/
def fix16Raw (m : Rounding) (p : Int) : Int := roundQuotient m p (2 ^ 28)

/-- FIX24 before saturation (R89). -/
def fix24Raw (m : Rounding) (p : Int) : Int := roundQuotient m p (2 ^ 20)

/-- The range of FIX16 (R89). -/
def clampFix16 (x : Int) : Int := clamp (-32768) 32767 x

/-- The range of FIX24 (R89). -/
def clampFix24 (x : Int) : Int := clamp (-8388608) 8388607 x

/-- The single-precision number nearest to `p / 2^43`, ties to the even significand, as the 32 bits of R153: sign,
exponent field, fraction. A product of 0 gives +0.0 (R92). -/
def flt32Bits (p : Int) : BitVec 32 :=
  if p = 0 then 0
  else
    let m := p.natAbs
    let e := Nat.log2 m
    let sig := if e ≤ 23 then m * 2 ^ (23 - e) else (roundNearest m (2 ^ (e - 23))).toNat
    let carry := sig = 2 ^ 24
    let exponent := e + (if carry then 1 else 0) + 84
    let fraction := if carry then 0 else sig - 2 ^ 23
    BitVec.ofNat 32 ((if p < 0 then 2 ^ 31 else 0) + exponent * 2 ^ 23 + fraction)

/-- The value a slot carries for a product (R89, R91, R92). -/
def slotValue (f : Format) (m : Rounding) (p : Int) : SlotValue :=
  match f with
  | .fix16 => .fix16 (clampFix16 (fix16Raw m p))
  | .fix24 => .fix24 (clampFix24 (fix24Raw m p))
  | .flt32 => .flt32 (flt32Bits p)

/-- Whether the value is saturated (R91); FLT32 has no saturation (R92). -/
def saturates (f : Format) (m : Rounding) (p : Int) : Bool :=
  match f with
  | .fix16 => clampFix16 (fix16Raw m p) != fix16Raw m p
  | .fix24 => clampFix24 (fix24Raw m p) != fix24Raw m p
  | .flt32 => false

/-- The zero value of a format (R95). -/
def zeroValue : Format → SlotValue
  | .fix16 => .fix16 0
  | .fix24 => .fix24 0
  | .flt32 => .flt32 0

/-! ### One slot and one segment (R84, R95, R100, R113, R114) -/

/-- The block of a slot: 64 zero values for a void input, the conversion of every product otherwise. -/
def slotBlock (e : SlotEntry) (void : Bool) (c : Nat) (m : Rounding) (v : Vector Sample 64) : List SlotValue :=
  v.toList.map fun x => if void then zeroValue e.format else slotValue e.format m (product x c)

/-- Whether a value of the slot is saturated in the cycle; a void cycle saturates nothing (R91, R95). -/
def slotClips (e : SlotEntry) (void : Bool) (c : Nat) (m : Rounding) (v : Vector Sample 64) : Bool :=
  !void && v.toList.any fun x => saturates e.format m (product x c)

/-- The blocks of a map in ascending slot order, from what was handed over at the last cycle end (R84, R113). -/
def State.segment (s : State) (p : Port) (map : SlotMap) : List (List SlotValue) :=
  map.toList.filterMap fun slot => slot.map fun e =>
    slotBlock e (s.frontEnd.reports.pick e.input).causes.any
      ((s.arbiter.handed.pick p).pick e.input).coefficient (s.level.rounding.pick p) (s.level.samples.pick e.input)

/-- The map of the next downlink cycle of a port as its maps stand: the draft when a commit is pending, which goes live
at its start (R84, R111). -/
def PortMaps.next (m : PortMaps) : SlotMap := if m.commitPending then m.draft else m.live

/-- Whether a slot of the map that carries the input saturates in the cycle just handed over (R97). -/
def State.clips (s : State) (p : Port) (map : SlotMap) (i : InputNo) : Bool :=
  map.toList.any fun slot => slot.any fun e => e.input == i &&
    slotClips e (s.frontEnd.reports.pick i).causes.any ((s.arbiter.handed.pick p).pick i).coefficient
      (s.level.rounding.pick p) (s.level.samples.pick i)

/-- The level engine takes the cycle's samples; it computes the blocks from them by the rounding mode in effect (R84,
R93). -/
def State.takeSamples (s : State) (samples : CycleSamples) : State :=
  { s with level := { s.level with samples := samples, rounding := s.level.inEffect } }

/-- The CLIP stickies with those added that the cycle just handed over calls for by a map of each port (R97). -/
def State.clipBy (s : State) (before : Vector (Vector Bool 32) 4) (map : Port → SlotMap) : Vector (Vector Bool 32) 4 :=
  .fill fun p => .fill fun i => (before.pick p).pick i || s.clips p (map p) i

/-- The CLIP and VOID stickies that the cycle calls for are set; a sticky already set stays set (R97, R98). CLIP goes by
the map that would go live as the state stands; the stickies before it are kept until the map is in effect (log entry
14). -/
def State.setStickies (s : State) : State :=
  { s with level := { s.level with
      clip := s.clipBy s.level.clip fun p => (s.mapsOf p).next
      clipBefore := some s.level.clip
      void := .fill fun p => .fill fun i => (s.level.void.pick p).pick i || (s.frontEnd.reports.pick i).causes.any } }

/-- With the live maps of the starting cycle in effect, the CLIP stickies are those that the last cycle's audio calls for
by these maps, before the digest reads them (R84, R97, R111, R115, R118). Where no COMMIT and no loss stood between the
end of the cycle and this start, they are as the cycle end set them. -/
def State.settleClip (s : State) : State :=
  match s.level.clipBefore with
  | none => s
  | some before =>
    { s with level := { s.level with clip := s.clipBy before fun p => (s.mapsOf p).live, clipBefore := none } }

/-! ### Rounding modes (R93, R94) -/

/-- A rounding mode requested takes effect at a cycle start (R93). -/
def State.startRounding (s : State) : State := { s with level := { s.level with inEffect := s.level.requested } }

/-- ROUND (R94). -/
def decideRound (p : Port) (a : Half) (s : State) : State × Reply :=
  match roundingOperand a with
  | none => (s, { outcome := .badValue, value := ((s.level.requested.pick p).code : Nat) })
  | some m =>
    ({ s with level := { s.level with requested := s.level.requested.put p m } },
      { outcome := .done, value := (m.code : Nat) })

end Sys2Proof.Machine
end

