-- ==== Sys2Proof/Machine/SlotMapper.lean ====
section
/-! DEFINITION. Chapter 6: payloads, the decisions of SLOT and COMMIT, going live, and the slot mapper's loss handling. -/

namespace Sys2Proof.Machine

/-- The bytes a slot of a format occupies (R89, R104). -/
def Format.slotBytes : Format → Nat
  | .fix16 => 128
  | .fix24 => 192
  | .flt32 => 256

/-- The bytes of one entry; EMPTY occupies none (R104). -/
def entryBytes : Option SlotEntry → Nat
  | none => 0
  | some e => e.format.slotBytes

/-- The payload of a map in bytes (R104). -/
def payload (m : SlotMap) : Nat := (m.toList.map entryBytes).sum

/-- The value field of a SLOT response: the entry of the draft slot (R107). -/
def entryValue : Option SlotEntry → Int
  | none => -1
  | some e => ((e.input.val * 4 + e.format.code : Nat) : Int)

/-- The draft slot is written (R106). -/
def State.writeDraft (s : State) (p : Port) (k : SlotNo) (e : Option SlotEntry) : State :=
  s.setMaps p { s.mapsOf p with draft := (s.mapsOf p).draft.put k e }

/-- SLOT (R105 to R107). -/
def decideSlot (p : Port) (target : Byte) (a b : Half) (s : State) : State × Reply :=
  match slotTarget target with
  | none => (s, .badTarget)
  | some k =>
    let current := entryValue ((s.mapsOf p).draft.pick k)
    if (s.mapsOf p).commitPending then (s, { outcome := .pending, value := current })
    else if a.toInt = -1 then (s.writeDraft p k none, { outcome := .done, value := -1 })
    else match slotInput a with
      | none => (s, .badTarget)
      | some i =>
        match formatOperand b with
        | none => (s, { outcome := .badValue, value := current })
        | some f =>
          let e : SlotEntry := { input := i, format := f }
          (s.writeDraft p k (some e), { outcome := .done, value := entryValue (some e) })

/-- COMMIT (R108, R109). -/
def decideCommit (p : Port) (s : State) : State × Reply :=
  let m := s.mapsOf p
  let next : Int := ((m.generation + 1).toNat : Nat)
  if m.commitPending then (s, { outcome := .pending, value := next })
  else if Config.payloadLimit < payload m.draft then (s, { outcome := .bandwidth, value := (payload m.draft : Nat) })
  else (s.setMaps p { m with commitPending := true }, { outcome := .done, value := next })

/-- A pending commit goes live at a downlink cycle start (R111). -/
def PortMaps.goLive (m : PortMaps) : PortMaps :=
  if m.commitPending then { m with live := m.draft, generation := m.generation + 1, commitPending := false } else m

/-- Every port's pending commit goes live (R111). -/
def State.goLive (s : State) : State := { s with maps := .fill fun p => (s.mapsOf p).goLive }

/-- The slot mapper's loss handling: the commit is cancelled and the draft becomes a copy of the live map (R118). -/
def State.loseMaps (s : State) (p : Port) : State :=
  s.setMaps p { s.mapsOf p with draft := (s.mapsOf p).live, commitPending := false }

end Sys2Proof.Machine
end

