-- ==== Sys2Proof/Machine/ClockTracker.lean ====
section
/-! DEFINITION. Chapter 7: the window, the interval history and L, candidates and the refused set, the four clock states
and their transitions, and the clock tracker's timer events. -/

namespace Sys2Proof.Machine

/-! ### Reference and candidates (R122, R125) -/

/-- The reference port, or none in FREE (R138). -/
def ClockState.reference : ClockState → Option Port
  | .free => none
  | .acquire r | .locked r | .holdover r => some r

/-- The port is ATTACHED. -/
def State.attached (s : State) (p : Port) : Bool := (s.port p).attach == .attached

/-- The port is in the preference list. -/
def State.listed (s : State) (p : Port) : Bool := s.store.settings.clockList.contains p

/-- The reference `r` is available: ATTACHED and in the list (R125). -/
def State.available (s : State) (r : Port) : Bool := s.attached r && s.listed r

/-- A port of the list is a candidate while it is ATTACHED and not in the refused set (R125). -/
def State.candidate (s : State) (p : Port) : Bool := s.attached p && !s.clock.refused.contains p

/-- The first candidate in list order (R125). -/
def State.firstCandidate (s : State) : Option Port := s.store.settings.clockList.find? s.candidate

/-- The first candidate other than `r`, or `r` itself when it is the only one (R135). -/
def State.candidateAfter (s : State) (r : Port) : Option Port :=
  (s.store.settings.clockList.find? fun p => p != r && s.candidate p).or s.firstCandidate

/-- The reference lane: the primary lane of the reference port while it is UP, otherwise its secondary lane while that
is UP (R122). -/
def State.referenceLane (s : State) : Option (Port × LaneId) :=
  s.clock.state.reference.bind fun r =>
    if (s.port r).primary.state = .up then some (r, .primary)
    else if (s.port r).secondary.state = .up then some (r, .secondary)
    else none

/-! ### Entries into the states -/

/-- The clock tracker forgets the predecessor header (R123). -/
def State.forget (s : State) : State := { s with clock := { s.clock with predecessor := none } }

/-- Entry to ACQUIRE on `r` (R124, R128); L keeps its value. -/
def State.enterAcquire (s : State) (r : Port) : State :=
  { s with clock := { s.clock with
      state := .acquire r, inWindow := 0, history := [], predecessor := none,
      acquireTimer := some Config.twoSeconds, holdoverTimer := none } }

/-- Entry to FREE: the history is emptied and L becomes N (R124, R127). -/
def State.enterFree (s : State) : State :=
  { s with clock := { s.clock with
      state := .free, history := [], length := (nominalCycle s.clock.rate : Nat), predecessor := none,
      acquireTimer := none, holdoverTimer := none } }

/-- Entry to HOLDOVER on `r`: L and the history are held (R124, R134). -/
def State.enterHoldover (s : State) (r : Port) : State :=
  { s with clock := { s.clock with
      state := .holdover r, relockRun := [], predecessor := none, holdoverTimer := some Config.tenSeconds } }

/-- ACQUIRE on a port, or FREE where there is none. -/
def State.acquireOrFree (s : State) : Option Port → State
  | some r => s.enterAcquire r
  | none => s.enterFree

/-- In FREE, the clock tracker enters ACQUIRE on the first candidate in the event in which one first exists (R127). -/
def State.leaveFree (s : State) : State :=
  match s.clock.state, s.firstCandidate with
  | .free, some r => s.enterAcquire r
  | _, _ => s

/-- The reference stops being available: R131 in ACQUIRE, R133 in LOCKED, R134 in HOLDOVER. -/
def State.loseReference (s : State) : State :=
  match s.clock.state with
  | .free => s
  | .acquire _ => s.acquireOrFree s.firstCandidate
  | .locked r => s.enterHoldover r
  | .holdover _ => { s with clock := { s.clock with relockRun := [], predecessor := none } }

/-! ### Attach states and the list (R126, R136, R147) -/

/-- A port becomes ATTACHED: it leaves the refused set, and FREE is left if a candidate now exists (R126, R127). -/
def State.clockAttached (s : State) (p : Port) : State :=
  { s with clock := { s.clock with refused := s.clock.refused.erase p } }.leaveFree

/-- A port stops being ATTACHED, or becomes ABSENT: the reference is lost if it is this port (R131, R133, R134). -/
def State.clockDetached (s : State) (p : Port) : State :=
  if s.clock.state.reference = some p then s.loseReference else s

/-- The clock tracker's part of an accepted CLOCK_LIST write (R136). -/
def State.clockListWritten (s : State) : State :=
  let t := { s with clock := { s.clock with refused := [] } }
  match t.clock.state.reference with
  | none => t.leaveFree
  | some r => if t.listed r then t else t.loseReference

/-! ### Intervals (R121, R123, R124, R129, R132, R134) -/

/-- The mean of a list of intervals (R124). -/
def meanOf (l : List Int) : Rat := mkRat l.sum l.length

/-- The last 8 of a list of intervals with one more at its end (R124). -/
def pushInterval (l : List Int) (d : Int) : List Int :=
  (l ++ [d]).drop ((l ++ [d]).length - Config.lockIntervals)

/-- In window: the difference from N is W ticks or less (R121). -/
def State.inWindow (s : State) (d : Int) : Bool :=
  decide ((d - (nominalCycle s.clock.rate : Nat)).natAbs ≤ s.store.settings.window)

/-- An in-window interval joins the history, and L becomes its mean (R124). -/
def Clock.steer (c : Clock) (d : Int) : Clock :=
  { c with history := pushInterval c.history d, length := meanOf (pushInterval c.history d) }

/-- An in-window interval in the state of the clock tracker (R124, R129, R132, R134). -/
def State.goodInterval (s : State) (d : Int) : State :=
  match s.clock.state with
  | .free => s
  | .acquire r =>
    let c := { s.clock.steer d with inWindow := s.clock.inWindow + 1 }
    { s with clock :=
        if Config.lockIntervals ≤ c.inWindow then { c with state := .locked r, acquireTimer := none, misses := 0 }
        else c }
  | .locked _ => { s with clock := { s.clock.steer d with misses := 0 } }
  | .holdover r =>
    let run := s.clock.relockRun ++ [d]
    { s with clock :=
        if Config.lockIntervals ≤ run.length then
          { s.clock with
            state := .locked r, holdoverTimer := none, misses := 0, relockRun := [],
            history := run, length := meanOf run }
        else { s.clock with relockRun := run } }

/-- An out-of-window interval in the state of the clock tracker (R129, R132, R134). -/
def State.badInterval (s : State) : State :=
  match s.clock.state with
  | .free => s
  | .acquire _ => { s with clock := { s.clock with inWindow := 0 } }
  | .locked r =>
    if Config.missesForDown ≤ s.clock.misses + 1 then
      { s with clock := { s.clock with misses := s.clock.misses + 1 } }.enterHoldover r
    else { s with clock := { s.clock with misses := s.clock.misses + 1 } }
  | .holdover _ => { s with clock := { s.clock with relockRun := [] } }

/-- A valid header of the reference lane is measured while the reference is available (R123): it becomes the
predecessor, and completes an interval when its count is 1 ahead of its predecessor's. -/
def State.measure (s : State) (count : Byte) (tick : Nat) : State :=
  if s.clock.state.reference.any s.available then
    let t := { s with clock := { s.clock with predecessor := some { count := count, tick := tick } } }
    match s.clock.predecessor with
    | none => t
    | some before =>
      if count = before.count + 1 then
        let d : Int := (tick : Int) - before.tick
        if s.inWindow d then t.goodInterval d else t.badInterval
      else t
  else s

/-- After a change of lane states the predecessor is forgotten if the reference lane is another one (R122). -/
def State.forgetIfLaneChanged (s before : State) : State :=
  if s.referenceLane = before.referenceLane then s else s.forget

/-! ### The clock tracker's timer events (R130, R135) -/

/-- The acquire timer expires in ACQUIRE on `r` (R130). -/
def State.acquireExpired (s : State) : State :=
  match s.clock.state with
  | .acquire r =>
    let t := { s with clock := { s.clock with refused := if r ∈ s.clock.refused then s.clock.refused else s.clock.refused ++ [r] } }
    t.acquireOrFree t.firstCandidate
  | .free | .locked _ | .holdover _ => s

/-- The holdover timer expires in HOLDOVER on `r` (R135). -/
def State.holdoverExpired (s : State) : State :=
  match s.clock.state with
  | .holdover r => s.acquireOrFree (s.candidateAfter r)
  | .free | .acquire _ | .locked _ => s

/-- ACQUIRE_TIMER_EXPIRY (R130). -/
def execAcquireTimerExpiry (s : State) : Host.Outcome State Fault Refusal := .next (s.whenRunning s.acquireExpired)

/-- HOLDOVER_TIMER_EXPIRY (R135). -/
def execHoldoverTimerExpiry (s : State) : Host.Outcome State Fault Refusal := .next (s.whenRunning s.holdoverExpired)

end Sys2Proof.Machine
end

