-- ==== Sys2Proof/Machine/SettingsStore.lean ====
section
/-! DEFINITION. Chapter 10: the decisions of SETTING and FACTORY, the writes of the two records, the restart after
FACTORY, start-up, and the store's events. -/

namespace Sys2Proof.Machine

/-! ### Start-up (R173, R83, R24, R50, R69, R102, R119, R139, R156, R163) -/

/-- The settings loaded at start: the last completed copy, or the defaults when its CRC fails (R173). -/
def SettingsCopy.load (c : SettingsCopy) : Settings := if c.sound then c.record else .defaults

/-- The odd member of each pair stored as linked takes the even member's stored step, pad and mode (R83). -/
def StoredFrontEnd.conform (r : StoredFrontEnd) : StoredFrontEnd :=
  let source := fun (i : InputNo) => if r.linked.pick (pairOf i) then evenOf (pairOf i) else i
  { r with
    steps := .fill fun i => r.steps.pick (source i)
    pads := .fill fun i => r.pads.pick (source i)
    modes := .fill fun i => r.modes.pick (source i) }

/-- The front-end record loaded at start, with linked pairs conformed (R173, R83). -/
def FrontEndCopy.load (c : FrontEndCopy) : StoredFrontEnd := (if c.sound then c.record else .defaults).conform

/-- An input at start with its stored values (R24). -/
def startInput (r : StoredFrontEnd) (i : InputNo) : Preamp :=
  { Preamp.reset with
    gainTarget := r.steps.pick i
    gainActual := r.steps.pick i
    padRequested := r.pads.pick i
    padInEffect := r.pads.pick i
    modeRequested := r.modes.pick i
    modeInEffect := r.modes.pick i
    effective := effectiveGain (r.steps.pick i) (r.pads.pick i) }

/-- The hand-over before the first cycle: the stored values (log entry 8). -/
def startReport (r : StoredFrontEnd) (i : InputNo) : InputReport :=
  { InputReport.reset with
    gainActual := r.steps.pick i
    padInEffect := r.pads.pick i
    modeInEffect := r.modes.pick i }

/-- A group at start: CHARGING with 600 ms where stored with phantom requested, OFF otherwise (R24); the sense level is
the measured one (R12). -/
def startGroup (r : StoredFrontEnd) (g : GroupNo) (sense : Sense) : PhantomGroup :=
  if r.phantom.pick g then
    { PhantomGroup.reset with state := .charging, chargeTimer := some Config.chargeTicks, sense := sense }
  else { PhantomGroup.reset with sense := sense }

/-- A record at start: the anchor is the input's effective gain (R69). -/
def startRecord (r : StoredFrontEnd) (i : InputNo) : CompRecord :=
  { CompRecord.reset with anchor := effectiveGain (r.steps.pick i) (r.pads.pick i) }

/-- The store at start: both records loaded, the dirty flag clear, both timers stopped, no write running (R173); the
copies in storage and the switch as they stand (R168). -/
def Store.start (st : Store) : Store where
  settings := st.settingsCopy.load
  frontEnd := st.frontEndCopy.load
  settingsCopy := st.settingsCopy
  frontEndCopy := st.frontEndCopy
  settingsWrite := none
  frontEndWrite := none
  dirty := false
  quietTimer := none
  ceilingTimer := none
  position := st.position
  factoryPort := none

/-- The part starts, at power-on or after FACTORY: every block takes its start values, from the records in storage
where they are stored. The command queue, the draw counter and the measured sense levels stand. -/
def State.startUp (s : State) : State :=
  let st := s.store.start
  let r := st.frontEnd
  { State.reset with
    pending := s.pending
    draws := s.draws
    frontEnd :=
      { inputs := .fill (startInput r)
        groups := .fill fun g => startGroup r g (s.group g).sense
        ovl := .fill fun _ => .fill fun _ => false
        reports := .fill (startReport r) }
    arbiter :=
      { holdings := .fill fun _ => { holder := none, queue := [] }
        linked := r.linked
        records := .fill fun _ => .fill (startRecord r)
        handed := .fill fun _ => .fill (startRecord r) }
    clock := { Clock.reset with rate := st.settings.rate, length := (nominalCycle st.settings.rate : Nat) }
    store := st }

/-! ### SETTING and FACTORY (R168 to R170) -/

/-- The four items (R154). -/
inductive SettingItem where
  | rate
  | clockList
  | window
  | senior
deriving DecidableEq, Repr

/-- The item by its target (10.2). -/
def settingItem (t : Byte) : Option SettingItem :=
  if t = 0 then some .rate else if t = 1 then some .clockList else if t = 2 then some .window
  else if t = 3 then some .senior else none

/-- The item's stored value, as the value field carries it (R169). -/
def Settings.value (x : Settings) : SettingItem → Int
  | .rate => (x.rate.code : Nat)
  | .clockList => clockListValue x.clockList
  | .window => (x.window : Nat)
  | .senior => seniorValue x.senior

/-- The settings with the item's value replaced by the operand's, when the operand is in the item's set (R169). -/
def Settings.replaced (x : Settings) (a : Half) : SettingItem → Option Settings
  | .rate => (rateOperand a).map fun v => { x with rate := v }
  | .clockList => (clockListOperand a).map fun v => { x with clockList := v }
  | .window => (windowOperand a).map fun v => { x with window := v }
  | .senior => (seniorOperand a).map fun v => { x with senior := v }

/-- The settings become `x`; a change starts a write of the record, or is noted in the write that runs (R169). -/
def Store.putSettings (st : Store) (x : Settings) : Store :=
  if x = st.settings then st
  else match st.settingsWrite with
    | none => { st with settings := x, settingsWrite := some { record := x, again := false } }
    | some w => { st with settings := x, settingsWrite := some { w with again := true } }

/-- SETTING (R168, R169); an accepted CLOCK_LIST is handed to the clock tracker whether or not it changes (R136). -/
def decideSetting (target : Byte) (a : Half) (s : State) : State × Reply :=
  match settingItem target with
  | none => (s, .badTarget)
  | some item =>
    let current := s.store.settings.value item
    if s.store.position = .run then (s, { outcome := .setupOnly, value := current })
    else match s.store.settings.replaced a item with
      | none => (s, { outcome := .badValue, value := current })
      | some x =>
        let t := { s with store := s.store.putSettings x }
        (if item = .clockList then t.clockListWritten else t, { outcome := .done, value := x.value item })

/-- FACTORY (R168, R170): the first accepted one is remembered with its port; a further one adds nothing. -/
def decideFactory (p : Port) (s : State) : State × Reply :=
  if s.store.position = .run then (s, { outcome := .setupOnly })
  else ({ s with store := { s.store with factoryPort := s.store.factoryPort.or (some p) } }, { outcome := .done })

/-! ### The restart after FACTORY (R170) -/

/-- A write is in flight. -/
def Store.writing (st : Store) : Bool := st.settingsWrite.isSome || st.frontEndWrite.isSome

/-- Once no write is in flight, both records are set to their defaults and written, the settings record first. -/
def State.writeDefaults (s : State) : State :=
  if s.store.writing then s
  else { s with
    phase := .restartSettings
    store := { s.store with settings := .defaults, frontEnd := .defaults } }

/-- The restart begins: downlinks stop, and the store waits for any write in flight. -/
def State.beginRestart (s : State) : State := { s with phase := .restartWaits }.writeDefaults

/-! ### The deferred write of the front-end record (R171, R172) -/

/-- A write of the front-end record begins: both timers stop, and it takes the working copy as it stands (R172). -/
def Store.beginWrite (st : Store) : Store :=
  { st with quietTimer := none, ceilingTimer := none,
            frontEndWrite := some { record := st.frontEnd, changed := false } }

/-- QUIET_TIMER_EXPIRY (R172). -/
def execQuietTimerExpiry (s : State) : Host.Outcome State Fault Refusal :=
  .next (s.whenRunning
    (if s.store.quietTimer.isSome ∧ s.store.frontEndWrite = none then { s with store := s.store.beginWrite } else s))

/-- CEILING_TIMER_EXPIRY (R172). -/
def execCeilingTimerExpiry (s : State) : Host.Outcome State Fault Refusal :=
  .next (s.whenRunning
    (if s.store.ceilingTimer.isSome ∧ s.store.frontEndWrite = none then { s with store := s.store.beginWrite } else s))

/-- A write of the front-end record completes: its copy is the last completed one; the dirty flag clears if no change
arrived during it (R172). -/
def Store.frontEndWritten (st : Store) (w : FrontEndWrite) : Store :=
  { st with frontEndCopy := { record := w.record, sound := true }, frontEndWrite := none, dirty := w.changed }

/-- FRONT_END_WRITE_COMPLETE (R172); in the restart the factory writes may now follow (R170). -/
def execFrontEndWriteComplete (s : State) : Host.Outcome State Fault Refusal :=
  .next (match s.store.frontEndWrite, s.phase with
    | some w, .running => { s with store := s.store.frontEndWritten w }
    | some w, .restartWaits => { s with store := s.store.frontEndWritten w }.writeDefaults
    | _, _ => s)

/-- A write of the settings record completes; another write of the record as it stands follows if a further change was
taken during it (R169). -/
def Store.settingsWritten (st : Store) (w : SettingsWrite) : Store :=
  { st with
    settingsCopy := { record := w.record, sound := true }
    settingsWrite := if w.again then some { record := st.settings, again := false } else none }

/-- SETTINGS_WRITE_COMPLETE (R169); in the restart no other write follows, and the factory writes may (R170). -/
def execSettingsWriteComplete (s : State) : Host.Outcome State Fault Refusal :=
  .next (match s.store.settingsWrite, s.phase with
    | some w, .running => { s with store := s.store.settingsWritten w }
    | some w, .restartWaits =>
      { s with store := { s.store.settingsWritten w with settingsWrite := none } }.writeDefaults
    | _, _ => s)

/-- FACTORY_WRITE_COMPLETE: the settings record first, then the front-end record; when both are complete the part
starts as at power-on (R170). -/
def execFactoryWriteComplete (s : State) : Host.Outcome State Fault Refusal :=
  .next (match s.phase with
    | .restartSettings =>
      { s with
        phase := .restartFrontEnd
        store := { s.store with settingsCopy := { record := s.store.settings, sound := true } } }
    | .restartFrontEnd =>
      { s with store := { s.store with frontEndCopy := { record := s.store.frontEnd, sound := true } } }.startUp
    | .off | .running | .restartWaits => s)

/-! ### The switch and the power (R168, R172, R173) -/

/-- SETUP_SWITCH_TURN: only the position changes (R168). -/
def execSetupSwitchTurn (x : SwitchPosition) (s : State) : Host.Outcome State Fault Refusal :=
  .next { s with store := { s.store with position := x } }

/-- POWER_ON (R173): `settingsSound` and `frontEndSound` say whether the copy read from storage checks; a copy that has
failed once fails again until it is written (log entry 2). -/
def execPowerOn (settingsSound frontEndSound : Bool) (s : State) : Host.Outcome State Fault Refusal :=
  .next ({ s with store := { s.store with
      settingsCopy := { s.store.settingsCopy with sound := s.store.settingsCopy.sound && settingsSound }
      frontEndCopy := { s.store.frontEndCopy with sound := s.store.frontEndCopy.sound && frontEndSound } } }.startUp)

/-- POWER_LOSS: the run ends; a write in flight does not complete, and the last completed copies stand (R172). -/
def execPowerLoss (s : State) : Host.Outcome State Fault Refusal :=
  .next { s with phase := .off, store := { s.store with settingsWrite := none, frontEndWrite := none } }

end Sys2Proof.Machine
end

