-- ==== Sys2Proof/Machine/Watches.lean ====
section
/-! DEFINITION. Chapter 9, sections 9.1 to 9.6: the decisions of WATCH and WATCH_CLEAR, evaluation, and the watch unit's
loss handling. -/

namespace Sys2Proof.Machine

/-- The threshold level of a threshold: 8 times its coefficient (R157). -/
def thresholdLevel (t : Int) : Nat := 8 * coefficient t

/-- The watch that an accepted WATCH writes: every field, with the results cleared (R158). -/
def writtenWatch (i : InputNo) (a b : Half) : Watch where
  input := i
  mask := watchMask a
  latch := a.getLsbD 4
  strict := a.getLsbD 5
  threshold := clamp (-160) 0 b.toInt
  level := thresholdLevel (clamp (-160) 0 b.toInt)
  condition := false
  latched := false
  fault := false

/-- WATCH (R158). -/
def decideWatch (p : Port) (target : Byte) (a b : Half) (s : State) : State × Reply :=
  match watchTarget target, watchInput a with
  | some w, some i =>
    (s.setWatch p w (writtenWatch i a b),
      { outcome := clampedOutcome (-160) 0 b, value := clamp (-160) 0 b.toInt })
  | _, _ => (s, .badTarget)

/-- The latched bit and the fault bit are cleared (R162). -/
def Watch.cleared (x : Watch) : Watch := { x with latched := false, fault := false }

/-- WATCH_CLEAR: one watch, or all eight for target 255 (R162). -/
def decideWatchClear (p : Port) (target : Byte) (s : State) : State × Reply :=
  let answer := fun (t : State) => (t, ({ outcome := .done, value := (maskValue (t.faultWord p) : Nat) } : Reply))
  if target = 255 then answer { s with watches := s.watches.put p (.fill fun w => (s.watch p w).cleared) }
  else match watchTarget target with
    | none => (s, .badTarget)
    | some w => answer (s.setWatch p w (s.watch p w).cleared)

/-- The evaluation of a watch for the cycle just ended on the peak of its input, `none` for void (R159 to R161); a
disabled watch is not evaluated (R157). -/
def Watch.evaluate (x : Watch) (peak : Option Nat) : Watch :=
  if x.enabled then
    { x with
      condition := x.found peak
      latched := x.latched || (x.latch && x.found peak)
      fault := x.fault || (x.strict && peak.isNone) }
  else x

/-- The watch unit's work of a cycle end: every watch of every port, on the peaks just found (R159). -/
def State.evaluateWatches (s : State) : State :=
  { s with watches := .fill fun p => .fill fun w => (s.watch p w).evaluate (s.input (s.watch p w).input).lastPeak }

/-- The watch unit's loss handling: every watch takes its power-on values (R163). -/
def State.loseWatches (s : State) (p : Port) : State :=
  { s with watches := s.watches.put p (.fill fun _ => .reset) }

end Sys2Proof.Machine
end

