-- ==== Sys2Proof/Machine/PortLinks.lean ====
section
/-! DEFINITION. Chapter 8: the request queue and its taking, copies and their judgement, lane states, attach states,
port loss, and the port links' events. -/

namespace Sys2Proof.Machine

/-! ### Requests (R149, R150, R154, R155) -/

/-- The owning block of the request's kind decides it (R154); a kind outside 0x01 to 0x10 is UNKNOWN (R155). -/
def decideRequest (p : Port) (r : Request) (s : State) : State × Reply :=
  match r.kind.toNat with
  | 1 => decideClaim p r.target s
  | 2 => decideYield p r.target s
  | 3 => decideGain p r.target r.a s
  | 4 => decidePad p r.target r.a s
  | 5 => decideMode p r.target r.a s
  | 6 => decidePhantom p r.target r.a s
  | 7 => decideTrim p r.target r.a s
  | 8 => decideMute p r.target r.a s
  | 9 => decideLink p r.target r.a s
  | 10 => decideSlot p r.target r.a r.b s
  | 11 => decideCommit p s
  | 12 => decideRound p r.a s
  | 13 => decideWatch p r.target r.a r.b s
  | 14 => decideWatchClear p r.target s
  | 15 => decideSetting r.target r.a s
  | 16 => decideFactory p s
  | _ => (s, { outcome := .unknown })

/-- A request is decided and its response appended, in one event (R150). -/
def State.serve (s : State) (p : Port) (r : Request) : State :=
  (decideRequest p r s).1.appendResponse p ((decideRequest p r s).2.toResponse r)

/-- The oldest request is taken whenever the response queue has a free place (R150). -/
def State.takeOne (s : State) (p : Port) : State :=
  match (s.port p).requests with
  | [] => s
  | r :: rest =>
    if (s.port p).responses.length < Config.queuePlaces then
      (s.setPort p { s.port p with requests := rest }).serve p r
    else s

/-- `n` takes from the port's queue. -/
def State.takes (s : State) (p : Port) : Nat → State
  | 0 => s
  | n + 1 => (s.takeOne p).takes p n

/-- Requests are taken until the queue is empty or the response queue full (R150). -/
def State.drain (s : State) (p : Port) : State := s.takes p (s.port p).requests.length

/-- A request frame joins the back of the queue, and requests are taken; a frame that finds 8 requests in the queue is
dropped and sets the overrun flag (R149). -/
def State.join (s : State) (p : Port) (r : Request) : State :=
  if (s.port p).requests.length < Config.queuePlaces then
    (s.setPort p { s.port p with requests := (s.port p).requests ++ [r] }).drain p
  else s.setPort p { s.port p with overrun := true }

/-- A request command: a request of a port that has attached reaches its queue. The queue of an ABSENT port is empty
and no frame of it is taken, so no request of it can be (R145, R148; log entry 9). A DETACHED port has no lane to send
on (R13), so no new request of it can arrive; the command acts for it as for an ATTACHED port (DESIGN CHOICE, log entry
27). -/
def State.request (s : State) (p : Port) (r : Request) : State :=
  if (s.port p).attach = .absent then s else s.join p r

/-! ### Lanes (R142, R143) and attach states (R146, R147) -/

/-- The lane of a port. -/
def State.lane (s : State) (p : Port) (l : LaneId) : Lane := (s.port p).lane l

def State.setLane (s : State) (p : Port) (l : LaneId) (x : Lane) : State := s.setPort p ((s.port p).setLane l x)

/-- The length of the miss timer: 1.5 nominal cycles (R143). -/
def missTicks (r : Rate) : Nat := 3 * nominalCycle r / 2

/-- At least one lane is UP. -/
def PortLink.anyUp (l : PortLink) : Bool := l.primary.state == .up || l.secondary.state == .up

/-- A lane has entered UP: an ABSENT or DETACHED port becomes ATTACHED and its grace timer stops (R146); the clock
tracker is told (R147). -/
def State.attachPort (s : State) (p : Port) : State :=
  if (s.port p).attach = .attached then s
  else (s.setPort p { s.port p with attach := .attached, graceTimer := none }).clockAttached p

/-- A lane has left UP: when it was the last, the port becomes DETACHED and its grace timer starts (R146); the clock
tracker is told (R147). -/
def State.detachPort (s : State) (p : Port) : State :=
  if (s.port p).attach = .attached ∧ (s.port p).anyUp = false then
    (s.setPort p { s.port p with attach := .detached, graceTimer := some Config.graceTicks }).clockDetached p
  else s

/-- Entry to DOWN (R142). -/
def Lane.enterDown (x : Lane) : Lane :=
  { x with state := .down, validCount := 0, missCount := 0, previous := none, missTimer := none }

/-- A lane falls to DOWN, with what follows for the port and the clock tracker. -/
def State.dropLane (s : State) (p : Port) (l : LaneId) : State :=
  let t := s.setLane p l (s.lane p l).enterDown
  (if (s.lane p l).state = .up then t.detachPort p else t).forgetIfLaneChanged s

/-- A lane's miss timer expires (R142, R143). -/
def State.missLane (s : State) (p : Port) (l : LaneId) : State :=
  let x := s.lane p l
  if x.missTimer = none then s
  else match x.state with
    | .down => s
    | .syncing => s.dropLane p l
    | .up =>
      if Config.missesForDown ≤ x.missCount + 1 then s.dropLane p l
      else s.setLane p l { x with missCount := x.missCount + 1, missTimer := some (missTicks s.clock.rate) }

/-- A valid header's effect on the lane's own fields (R142): the previous count and the miss timer in every state. -/
def Lane.validHeader (x : Lane) (count : Byte) (ticks : Nat) : Lane :=
  let y := { x with previous := some count, missTimer := some ticks }
  match x.state with
  | .down => { y with state := .syncing, validCount := 1 }
  | .syncing =>
    if Config.validHeadersForUp ≤ x.validCount + 1 then
      { y with state := .up, validCount := x.validCount + 1, missCount := 0 }
    else { y with validCount := x.validCount + 1 }
  | .up => { y with missCount := 0 }

/-- A valid header acts on the lane at its arrival (R142). A header of the lane that was the reference lane when it
arrived is handed to the clock tracker (R147); one that itself brings the lane UP is not (R122; log entry 10). -/
def State.validHeader (s : State) (p : Port) (l : LaneId) (count : Byte) (tick : Nat) : State :=
  let x := (s.lane p l).validHeader count (missTicks s.clock.rate)
  let t := s.setLane p l x
  if (s.lane p l).state = .up then
    if s.referenceLane = some (p, l) then t.measure count tick else t
  else if x.state = .up then (t.attachPort p).forgetIfLaneChanged s
  else t

/-- The header is judged at its arrival: valid if its CRC checks, with a count error if the lane has a previous count
that it does not follow (R141). -/
def Lane.judgeHeader (x : Lane) (count requests crcHigh crcLow : Byte) : ArrivedHeader :=
  let valid := crc16 [count, requests] == crcHigh ++ crcLow
  { count := count
    requests := requests
    valid := valid
    countError := valid && x.previous.any fun before => count != before + 1 }

/-- The fourth byte of the copy in progress arrives (R141, R142). Bytes outside a copy, and a second fourth byte of one
copy, are no header (log entry 9). -/
def State.arrive (s : State) (p : Port) (l : LaneId) (count requests crcHigh crcLow : Byte) (tick : Nat) : State :=
  if (s.lane p l).copy = some { header := none } then
    let h := (s.lane p l).judgeHeader count requests crcHigh crcLow
    let t := s.setLane p l { s.lane p l with copy := some { header := some h } }
    if h.valid then t.validHeader p l count tick else t
  else s

/-! ### The end of a copy (R141, R144, R145) -/

/-- How far a count is ahead of another, modulo 256 (spec/00_scope.md section 5.1). -/
def ahead (count last : Byte) : Nat := (count - last).toNat

/-- The count may be taken after the last taken count (R145). -/
def fresh (count : Byte) : Option Byte → Bool
  | none => true
  | some last => 1 ≤ ahead count last && ahead count last ≤ 127

/-- Length error (R141). -/
def ArrivedHeader.lengthError (h : ArrivedHeader) (rest : List Byte) : Bool :=
  h.valid && (decide (4 < h.requests.toNat) || rest.length != 8 * h.requests.toNat)

/-- CRC error (R141): the header's CRC fails, or the copy has no length error and a request frame fails its CRC. -/
def ArrivedHeader.crcError (h : ArrivedHeader) (rest : List Byte) : Bool :=
  !h.valid || (!h.lengthError rest && (parseFrames h.requests.toNat rest).isNone)

/-- The first four indications for a copy whose header arrived (R141, R144). -/
def ArrivedHeader.status (h : ArrivedHeader) (rest : List Byte) : LaneStatus where
  headerValid := h.valid
  crcError := h.crcError rest
  lengthError := h.lengthError rest
  countError := h.countError
  copyTaken := false

/-- Usable (R141). -/
def ArrivedHeader.usable (h : ArrivedHeader) (rest : List Byte) : Bool :=
  h.valid && !h.crcError rest && !h.lengthError rest

/-- The indications for a copy of fewer than 4 bytes: no valid header; its CRC error indication is a free value
(R141; log entry 6). -/
def shortStatus (draw : Nat) : LaneStatus :=
  { LaneStatus.clear with crcError := Config.shortCopyCrcError draw }

/-- The copy is taken: its count and lane are kept, and its frames join the request queue one by one (R145, R149). -/
def State.takeCopy (s : State) (p : Port) (l : LaneId) (count : Byte) (frames : List Request) : State :=
  let t := s.setPort p { s.port p with lastTaken := some count, laneLastUsed := some l }
  frames.foldl (fun t r => t.join p r) t

/-- The copy in progress ends: it is judged, the lane status record is rewritten, and it is taken or discarded (R144,
R145). The lane then has no copy in progress. -/
def State.endCopy (s : State) (p : Port) (l : LaneId) (rest : List Byte) : State :=
  let x := s.lane p l
  match x.copy with
  | none => s
  | some { header := none } =>
    { s.setLane p l { x with copy := none, status := shortStatus s.draws } with draws := s.draws + 1 }
  | some { header := some h } =>
    let taken := x.state == .up && h.usable rest && fresh h.count (s.port p).lastTaken
    let t := s.setLane p l { x with copy := none, status := { h.status rest with copyTaken := taken } }
    if taken then t.takeCopy p l h.count ((parseFrames h.requests.toNat rest).getD []) else t

/-- A copy start marker begins a new copy (R141). -/
def State.beginCopy (s : State) (p : Port) (l : LaneId) : State :=
  s.setLane p l { s.lane p l with copy := some { header := none } }

/-! ### Port loss (R146, R148) -/

/-- The port link's own loss handling (R148). -/
def PortLink.lose (l : PortLink) : PortLink :=
  { l with attach := .absent, graceTimer := none, requests := [], responses := [], overrun := false, lastTaken := none }

/-- The port becomes ABSENT, and every block carries out its loss handling in the same event (R45, R118, R134, R148,
R163); a restart whose FACTORY response is flushed begins (R170). -/
def State.losePort (s : State) (p : Port) : State :=
  let t := s.setPort p (s.port p).lose
  let t := (((t.loseHoldings p).loseMaps p).loseWatches p).clockDetached p
  if s.store.factoryPort = some p then t.beginRestart else t

/-! ### The port links' events -/

/-- COPY_START (R141): the previous copy ends and a new one begins. -/
def execCopyStart (p : Port) (l : LaneId) (rest : List Byte) (s : State) : Host.Outcome State Fault Refusal :=
  .next (s.whenRunning ((s.endCopy p l rest).beginCopy p l))

/-- SIGNAL_LOSS (R141): the copy in progress ends. -/
def execSignalLoss (p : Port) (l : LaneId) (rest : List Byte) (s : State) : Host.Outcome State Fault Refusal :=
  .next (s.whenRunning (s.endCopy p l rest))

/-- HEADER_ARRIVAL (R141, R142). -/
def execHeaderArrival (p : Port) (l : LaneId) (count requests crcHigh crcLow : Byte) (tick : Nat) (s : State) :
    Host.Outcome State Fault Refusal :=
  .next (s.whenRunning (s.arrive p l count requests crcHigh crcLow tick))

/-- MISS (R143). -/
def execMiss (p : Port) (l : LaneId) (s : State) : Host.Outcome State Fault Refusal :=
  .next (s.whenRunning (s.missLane p l))

/-- GRACE_EXPIRY (R146): acts on a DETACHED port whose grace timer runs. -/
def execGraceExpiry (p : Port) (s : State) : Host.Outcome State Fault Refusal :=
  .next (s.whenRunning
    (if (s.port p).attach = .detached ∧ (s.port p).graceTimer.isSome then s.losePort p else s))

end Sys2Proof.Machine
end

