-- ==== Sys2Proof/Machine/Report.lean ====
section
/-! DEFINITION. The downlink: header, digest, audio segment and control window as fields (R152, R164 to R167) and as
bytes (R153, 8.8.4), and the front-panel indicators. -/

namespace Sys2Proof.Machine

/-! ### Fields -/

/-- The holdings mask of a port (R47). -/
def State.holdingsMask (s : State) (p : Port) : Vector Bool 32 := .fill fun i => s.holds p i

/-- The waiting mask of a port (R48). -/
def State.waitingMask (s : State) (p : Port) : Vector Bool 32 :=
  .fill fun i => decide (p ∈ (s.holding (s.unitOf i)).queue)

/-- The header of a port's downlink, with the number of responses leaving (R164, R165). -/
def State.header (s : State) (p : Port) (count : Byte) (responses : Nat) : Header where
  cycleCount := count
  rate := s.clock.rate
  clock := s.clock.state
  setup := s.store.position == .setup
  storeDirty := s.store.dirty
  overrun := (s.port p).overrun
  commitPending := (s.mapsOf p).commitPending
  primaryState := (s.port p).primary.state
  primaryStatus := (s.port p).primary.status
  secondaryState := (s.port p).secondary.state
  secondaryStatus := (s.port p).secondary.status
  laneLastUsed := (s.port p).laneLastUsed
  generation := (s.mapsOf p).generation
  holdings := s.holdingsMask p
  waiting := s.waitingMask p
  watchWord := s.watchWord p
  faultWord := s.faultWord p
  groupStates := .fill fun g => (s.group g).state
  groupSenses := .fill fun g => (s.group g).sense
  responseCount := responses

/-- The input a downlink's digest reports: the count modulo 32 (R152, R166). -/
def digestInput (count : Byte) : InputNo := Fin.ofNat 32 count.toNat

/-- The digest of an input for a port (R49, R67, R99, R166, R167). -/
def State.digest (s : State) (p : Port) (i : InputNo) : Digest where
  input := i
  holder := (s.holding (s.unitOf i)).holder
  queue := (s.holding (s.unitOf i)).queue
  linked := s.linked (pairOf i)
  gainTarget := (s.input i).gainTarget
  report := s.frontEnd.reports.pick i
  record := (s.arbiter.handed.pick p).pick i
  clip := (s.level.clip.pick p).pick i
  void := (s.level.void.pick p).pick i
  ovl := (s.frontEnd.ovl.pick p).pick i

/-- The downlink copy of a port (R152). -/
def State.downlinkCopy (s : State) (p : Port) (count : Byte) (leaving : List Response) : DownlinkCopy where
  header := s.header p count leaving.length
  digest := s.digest p (digestInput count)
  blocks := s.segment p (s.mapsOf p).live
  responses := leaving

/-! ### Bytes (R153, 8.8.3, 8.8.4) -/

/-- The bytes of one value. -/
def SlotValue.bytes : SlotValue → List Byte
  | .fix16 v => bytesOf16 (BitVec.ofInt 16 v)
  | .fix24 v => bytesOf24 (BitVec.ofInt 24 v)
  | .flt32 b => bytesOf32 b

/-- The response frame of 8 bytes. -/
def Response.bytes (r : Response) : List Byte :=
  withCrc ([r.kind, r.target, r.outcome.code, BitVec.ofNat 8 r.position] ++ bytesOfInt16 r.value)

/-- The code of a clock state. -/
def ClockState.code : ClockState → Byte
  | .free => 0
  | .acquire _ => 1
  | .locked _ => 2
  | .holdover _ => 3

/-- The lane last used byte. -/
def laneByte : Option LaneId → Byte
  | some .primary => 0
  | some .secondary => 1
  | none => 0xFF

/-- A phantom group byte: bits 2 to 0 the state, bit 7 the sense level. -/
def groupByte (st : PhantomState) (sense : Sense) : Byte :=
  BitVec.ofNat 8 (st.code + if sense = .ok then 128 else 0)

/-- The 28 bytes of the header. -/
def Header.bytes (h : Header) : List Byte :=
  [h.cycleCount, BitVec.ofNat 8 h.rate.code, h.clock.code, portByte h.clock.reference,
    flagByte [h.setup, h.storeDirty, h.overrun, h.commitPending],
    laneStatusByte h.primaryState h.primaryStatus, laneStatusByte h.secondaryState h.secondaryStatus,
    laneByte h.laneLastUsed, h.generation]
  ++ bytesOf32 (BitVec.ofNat 32 (maskValue h.holdings)) ++ bytesOf32 (BitVec.ofNat 32 (maskValue h.waiting))
  ++ [BitVec.ofNat 8 (maskValue h.watchWord), BitVec.ofNat 8 (maskValue h.faultWord)]
  ++ (List.finRange 8).map (fun g => groupByte (h.groupStates.pick g) (h.groupSenses.pick g))
  ++ [BitVec.ofNat 8 h.responseCount]

/-- The 18 bytes of the digest. -/
def Digest.bytes (d : Digest) : List Byte :=
  [BitVec.ofNat 8 d.input.val, portByte d.holder, portByte d.queue[0]?, portByte d.queue[1]?, portByte d.queue[2]?,
    BitVec.ofNat 8 d.gainTarget, BitVec.ofNat 8 d.report.gainActual,
    flagByte [d.linked, d.report.padInEffect, d.report.modeInEffect == .line, d.report.phantomApplied,
      d.report.causes.any],
    flagByte [d.report.causes.settle, d.report.causes.modeTimer, d.report.causes.group, d.report.causes.clock]]
  ++ bytesOf24 (BitVec.ofNat 24 (d.report.lastPeak.getD 0xFFFFFF))
  ++ bytesOfInt16 d.record.trim ++ [BitVec.ofInt 8 d.record.anchor] ++ bytesOfInt16 d.record.applied
  ++ [flagByte [d.record.mute, d.record.compLimited, d.clip, d.void, d.ovl]]

/-- The bytes of a downlink copy, in the order of R152: the header-and-digest block with its CRC, each audio block with
its CRC, and the control window. -/
def DownlinkCopy.bytes (c : DownlinkCopy) : List Byte :=
  withCrc (c.header.bytes ++ c.digest.bytes)
  ++ (c.blocks.map fun b => withCrc (b.map SlotValue.bytes).flatten).flatten
  ++ (c.responses.map Response.bytes).flatten

/-! ### Front-panel indicators (R12, R138, R144) -/

/-- What an indicator shows. -/
inductive Indicator where
  | dark
  | slowFlashing
  | fastFlashing
  | flashing
  | lit
deriving DecidableEq, Repr

/-- The indicator of a phantom group (R12). -/
def PhantomState.indicator : PhantomState → Indicator
  | .off => .dark
  | .charging | .discharging => .slowFlashing
  | .on => .lit
  | .fault => .fastFlashing

/-- The clock state indicator (R138). -/
def ClockState.indicator : ClockState → Indicator
  | .free => .dark
  | .acquire _ => .slowFlashing
  | .locked _ => .lit
  | .holdover _ => .fastFlashing

/-- The lane indicator (R144). -/
def LaneState.indicator : LaneState → Indicator
  | .down => .dark
  | .syncing => .flashing
  | .up => .lit

end Sys2Proof.Machine
end

