-- ==== Sys2Proof/Machine/Requests.lean ====
section
/-! DEFINITION. The seventeen request commands: each presents one request of its kind to its port's request queue, from
which it is taken and decided by its owning block as R149, R150 and R154 state. -/

namespace Sys2Proof.Machine

/-- CLAIM (R28): decided by `decideClaim`. -/
def execClaim (p : Port) (target : Byte) (s : State) : Host.Outcome State Fault Refusal :=
  .next (s.whenRunning (s.request p { kind := 1, target := target, a := 0, b := 0 }))

/-- YIELD (R33): decided by `decideYield`. -/
def execYield (p : Port) (target : Byte) (s : State) : Host.Outcome State Fault Refusal :=
  .next (s.whenRunning (s.request p { kind := 2, target := target, a := 0, b := 0 }))

/-- GAIN (R14): decided by `decideGain`. -/
def execGain (p : Port) (target : Byte) (a : Half) (s : State) : Host.Outcome State Fault Refusal :=
  .next (s.whenRunning (s.request p { kind := 3, target := target, a := a, b := 0 }))

/-- PAD (R15): decided by `decidePad`. -/
def execPad (p : Port) (target : Byte) (a : Half) (s : State) : Host.Outcome State Fault Refusal :=
  .next (s.whenRunning (s.request p { kind := 4, target := target, a := a, b := 0 }))

/-- MODE (R16): decided by `decideMode`. -/
def execMode (p : Port) (target : Byte) (a : Half) (s : State) : Host.Outcome State Fault Refusal :=
  .next (s.whenRunning (s.request p { kind := 5, target := target, a := a, b := 0 }))

/-- PHANTOM (R17): decided by `decidePhantom`. -/
def execPhantom (p : Port) (target : Byte) (a : Half) (s : State) : Host.Outcome State Fault Refusal :=
  .next (s.whenRunning (s.request p { kind := 6, target := target, a := a, b := 0 }))

/-- TRIM (R60): decided by `decideTrim`. -/
def execTrim (p : Port) (target : Byte) (a : Half) (s : State) : Host.Outcome State Fault Refusal :=
  .next (s.whenRunning (s.request p { kind := 7, target := target, a := a, b := 0 }))

/-- MUTE (R63): decided by `decideMute`. -/
def execMute (p : Port) (target : Byte) (a : Half) (s : State) : Host.Outcome State Fault Refusal :=
  .next (s.whenRunning (s.request p { kind := 8, target := target, a := a, b := 0 }))

/-- LINK (R71): decided by `decideLink`. -/
def execLink (p : Port) (target : Byte) (a : Half) (s : State) : Host.Outcome State Fault Refusal :=
  .next (s.whenRunning (s.request p { kind := 9, target := target, a := a, b := 0 }))

/-- SLOT (R106): decided by `decideSlot`. -/
def execSlot (p : Port) (target : Byte) (a b : Half) (s : State) : Host.Outcome State Fault Refusal :=
  .next (s.whenRunning (s.request p { kind := 10, target := target, a := a, b := b }))

/-- COMMIT (R108): decided by `decideCommit`. -/
def execCommit (p : Port) (target : Byte) (s : State) : Host.Outcome State Fault Refusal :=
  .next (s.whenRunning (s.request p { kind := 11, target := target, a := 0, b := 0 }))

/-- ROUND (R94): decided by `decideRound`. -/
def execRound (p : Port) (target : Byte) (a : Half) (s : State) : Host.Outcome State Fault Refusal :=
  .next (s.whenRunning (s.request p { kind := 12, target := target, a := a, b := 0 }))

/-- WATCH (R158): decided by `decideWatch`. -/
def execWatch (p : Port) (target : Byte) (a b : Half) (s : State) : Host.Outcome State Fault Refusal :=
  .next (s.whenRunning (s.request p { kind := 13, target := target, a := a, b := b }))

/-- WATCH_CLEAR (R162): decided by `decideWatchClear`. -/
def execWatchClear (p : Port) (target : Byte) (s : State) : Host.Outcome State Fault Refusal :=
  .next (s.whenRunning (s.request p { kind := 14, target := target, a := 0, b := 0 }))

/-- SETTING (R169): decided by `decideSetting`. -/
def execSetting (p : Port) (target : Byte) (a : Half) (s : State) : Host.Outcome State Fault Refusal :=
  .next (s.whenRunning (s.request p { kind := 15, target := target, a := a, b := 0 }))

/-- FACTORY (R170): decided by `decideFactory`. -/
def execFactory (p : Port) (target : Byte) (s : State) : Host.Outcome State Fault Refusal :=
  .next (s.whenRunning (s.request p { kind := 16, target := target, a := 0, b := 0 }))

/-- UNKNOWN (R155): decided by the port link itself, with the outcome UNKNOWN. -/
def execUnknown (p : Port) (kind target : Byte) (s : State) : Host.Outcome State Fault Refusal :=
  .next (s.whenRunning (s.request p { kind := kind, target := target, a := 0, b := 0 }))

end Sys2Proof.Machine
end

