-- ==== Sys2Proof/Machine/Cycles.lean ====
section
/-! DEFINITION. The two events of a cycle boundary: the end of a cycle (R84) and the start of the next one (R1), each
block's work in the order the chapters give. -/

namespace Sys2Proof.Machine

/-! ### The end of a cycle -/

/-- The end of a cycle: peaks and hand-overs (R21 to R23, R54), audio and stickies (R84, R97, R98), watches (R159). -/
def State.endCycle (s : State) (samples : CycleSamples) : State :=
  ((((s.endFrontEnd samples).handRecords).takeSamples samples).setStickies).evaluateWatches

/-! ### The start of a cycle -/

/-- The count of the cycle that starts: 0 for the first of a run, one ahead of the last otherwise (R156, R124). -/
def State.nextCount (s : State) : Byte :=
  match s.cycleCount with
  | none => 0
  | some n => n + 1

/-- The blocks bring their state into the new cycle: front end, gain arbiter, level engine, slot mapper; and the CLIP
stickies follow the maps now live (R97). -/
def State.startBlocks (s : State) : State :=
  ({ s with cycleCount := some s.nextCount }.startFrontEnd.startRecords.startRounding).goLive.settleClip

/-- The responses that leave at this cycle start, the oldest four (R151). -/
def State.leaving (s : State) (p : Port) : List Response := (s.port p).responses.take Config.windowResponses

/-- Every port's leaving responses are gone from its queue (R151). -/
def State.leave (s : State) : State :=
  { s with links := .fill fun p =>
      { s.port p with responses := (s.port p).responses.drop Config.windowResponses } }

/-- Waiting requests are taken in the places freed, in the order of the schedule, and then port by port until no more
can be (R151; log entry 7). -/
def State.takeWaiting (s : State) (schedule : List Port) : State :=
  allPorts.foldl State.drain (schedule.foldl State.takeOne s)

/-- Every port's downlink copy is formed and sent on both lanes; the overrun flag is cleared as the header is formed
(R149, R152). -/
def State.sendDownlinks (s : State) (count : Byte) (leaving : Vector (List Response) 4) : State :=
  { s with links := .fill fun p =>
      let c := s.downlinkCopy p count (leaving.pick p)
      { s.port p with
        overrun := false
        downlink := some c
        primary := { (s.port p).primary with sent := c.bytes }
        secondary := { (s.port p).secondary with sent := c.bytes } } }

/-- A bank of stickies with those of one input cleared for every port (R23, R99). -/
def clearSticky (b : Vector (Vector Bool 32) 4) (i : InputNo) : Vector (Vector Bool 32) 4 :=
  .fill fun p => (b.pick p).put i false

/-- The digest's reported stickies are cleared (R23, R99). -/
def State.clearReported (s : State) (i : InputNo) : State :=
  { s with
    frontEnd := { s.frontEnd with ovl := clearSticky s.frontEnd.ovl i }
    level := { s.level with clip := clearSticky s.level.clip i, void := clearSticky s.level.void i } }

/-- The accepted FACTORY's response is among those that leave (R170). -/
def State.factoryLeaves (s : State) (leaving : Vector (List Response) 4) : Bool :=
  s.store.factoryPort.any fun p => (leaving.pick p).any fun r => r.kind == 16 && r.outcome == .done

/-- The start of a cycle (R1, R52, R93, R111, R151, R152, R99, R170). -/
def State.startCycle (s : State) (schedule : List Port) : State :=
  let t := s.startBlocks
  let leaving : Vector (List Response) 4 := .fill t.leaving
  let t := t.leave.takeWaiting schedule
  let t := (t.sendDownlinks s.nextCount leaving).clearReported (digestInput s.nextCount)
  if t.factoryLeaves leaving then t.beginRestart else t

/-- CYCLE_START (R1). One with no CYCLE_END since the last cannot occur but for the first of a run; it acts as any other,
on what was last handed over (log entry 26). -/
def execCycleStart (schedule : List Port) (s : State) : Host.Outcome State Fault Refusal :=
  .next (s.whenRunning (s.startCycle schedule))

/-- CYCLE_END (R84). One before the first CYCLE_START of a run, or a second one with no CYCLE_START between, cannot occur;
it acts as any other, on the samples it carries (DESIGN CHOICE, log entry 26). -/
def execCycleEnd (samples : CycleSamples) (s : State) : Host.Outcome State Fault Refusal :=
  .next (s.whenRunning (s.endCycle samples))

end Sys2Proof.Machine
end

