-- ==== Sys2Proof/Machine/Dispatch.lean ====
section
/-! DEFINITION. The dispatch: one arm per command, each a call of its meaning. -/

namespace Sys2Proof.Machine

def exec (i : Instr) (s : State) : Host.Outcome State Fault Refusal :=
  match i with
  -- requests (chapters 1 to 6, 9 and 10)
  | .claim p target => Sys2Proof.Machine.execClaim p target s
  | .yield p target => Sys2Proof.Machine.execYield p target s
  | .gain p target a => Sys2Proof.Machine.execGain p target a s
  | .pad p target a => Sys2Proof.Machine.execPad p target a s
  | .mode p target a => Sys2Proof.Machine.execMode p target a s
  | .phantom p target a => Sys2Proof.Machine.execPhantom p target a s
  | .trim p target a => Sys2Proof.Machine.execTrim p target a s
  | .mute p target a => Sys2Proof.Machine.execMute p target a s
  | .link p target a => Sys2Proof.Machine.execLink p target a s
  | .slot p target a b => Sys2Proof.Machine.execSlot p target a b s
  | .commit p target => Sys2Proof.Machine.execCommit p target s
  | .round p target a => Sys2Proof.Machine.execRound p target a s
  | .watch p target a b => Sys2Proof.Machine.execWatch p target a b s
  | .watchClear p target => Sys2Proof.Machine.execWatchClear p target s
  | .setting p target a => Sys2Proof.Machine.execSetting p target a s
  | .factory p target => Sys2Proof.Machine.execFactory p target s
  | .unknown p kind target => Sys2Proof.Machine.execUnknown p kind target s
  -- the links (chapter 8)
  | .copyStart p l rest => Sys2Proof.Machine.execCopyStart p l rest s
  | .signalLoss p l rest => Sys2Proof.Machine.execSignalLoss p l rest s
  | .headerArrival p l count requests hi lo tick => Sys2Proof.Machine.execHeaderArrival p l count requests hi lo tick s
  | .miss p l => Sys2Proof.Machine.execMiss p l s
  | .graceExpiry p => Sys2Proof.Machine.execGraceExpiry p s
  -- the cycle
  | .cycleStart schedule => Sys2Proof.Machine.execCycleStart schedule s
  | .cycleEnd samples => Sys2Proof.Machine.execCycleEnd samples s
  -- the front end (chapter 1)
  | .modeTimerExpiry n => Sys2Proof.Machine.execModeTimerExpiry n s
  | .chargeTimerExpiry g => Sys2Proof.Machine.execChargeTimerExpiry g s
  | .dischargeTimerExpiry g => Sys2Proof.Machine.execDischargeTimerExpiry g s
  | .lowSenseTimerExpiry g => Sys2Proof.Machine.execLowSenseTimerExpiry g s
  | .faultVoidTimerExpiry g => Sys2Proof.Machine.execFaultVoidTimerExpiry g s
  | .senseChange g level => Sys2Proof.Machine.execSenseChange g level s
  -- the clock tracker (chapter 7)
  | .acquireTimerExpiry => Sys2Proof.Machine.execAcquireTimerExpiry s
  | .holdoverTimerExpiry => Sys2Proof.Machine.execHoldoverTimerExpiry s
  -- the settings store (chapter 10)
  | .quietTimerExpiry => Sys2Proof.Machine.execQuietTimerExpiry s
  | .ceilingTimerExpiry => Sys2Proof.Machine.execCeilingTimerExpiry s
  | .frontEndWriteComplete => Sys2Proof.Machine.execFrontEndWriteComplete s
  | .settingsWriteComplete => Sys2Proof.Machine.execSettingsWriteComplete s
  | .factoryWriteComplete => Sys2Proof.Machine.execFactoryWriteComplete s
  | .setupSwitchTurn x => Sys2Proof.Machine.execSetupSwitchTurn x s
  | .powerOn a b => Sys2Proof.Machine.execPowerOn a b s
  | .powerLoss => Sys2Proof.Machine.execPowerLoss s

end Sys2Proof.Machine
end

