-- ==== Sys2Proof/Safety.lean ====
section
/-! DEFINITION. What the manual says is true of the part in every state of a run, as predicates on a state: the
invariants that the statements of Certificates/Slice0/Obligations.lean claim every step keeps. -/

namespace Sys2Proof.Safety

open Sys2Proof.Machine

/-! ### Analog state and records (chapters 1 and 3) -/

/-- Every step kept in or on its way to storage is a gain step, 0 to 60. -/
abbrev stepsInRange (r : StoredFrontEnd) : Prop := ∀ i, r.steps.pick i ≤ 60

/-- Gain target and gain actual lie within 0 to 60 (R2), the effective analog gain is the one of R1, the settle count
lies within 0 to 4 (R4), and the stored steps are steps. -/
abbrev analogInRange (s : State) : Prop :=
  (∀ i, (s.input i).gainTarget ≤ 60 ∧ (s.input i).gainActual ≤ 60 ∧ (s.input i).settle ≤ 4 ∧
    (s.input i).effective = ((s.input i).gainActual : Int) - (if (s.input i).padInEffect then 20 else 0)) ∧
  stepsInRange s.store.frontEnd ∧ stepsInRange s.store.frontEndCopy.record ∧
  ∀ w, s.store.frontEndWrite = some w → stepsInRange w.record

/-- The anchor lies within -20 to +60 dB, trim and applied digital gain within -160 to +96 qdB (R51, R52). -/
abbrev recordInRange (r : CompRecord) : Prop :=
  -20 ≤ r.anchor ∧ r.anchor ≤ 60 ∧ -160 ≤ r.trim ∧ r.trim ≤ 96 ∧ -160 ≤ r.applied ∧ r.applied ≤ 96

/-- The port holds the unit of the input: the holder of the even member of a linked pair, of the input itself
otherwise (R25). -/
abbrev isHolder (s : State) (p : Port) (i : InputNo) : Prop :=
  (s.holding (if s.linked (pairOf i) then evenOf (pairOf i) else i)).holder = some p

/-- The applied digital gain and the comp-limited flag are those of R52 and R53 for the port's standing. -/
abbrev recordSettled (s : State) (p : Port) (i : InputNo) : Prop :=
  let r := s.record p i
  let raw := r.trim + 4 * (r.anchor - (s.input i).effective)
  if isHolder s p i then r.applied = r.trim ∧ r.compLimited = false
  else r.applied = max (-160) (min 96 raw) ∧ (r.compLimited = true ↔ raw < -160 ∨ 96 < raw)

/-- Every record, kept and handed over, is in range, and every record kept is settled. -/
abbrev recordsOk (s : State) : Prop :=
  ∀ p i, recordInRange (s.record p i) ∧ recordInRange ((s.arbiter.handed.pick p).pick i) ∧ recordSettled s p i

/-! ### Holding (chapters 2 and 4) -/

/-- One input's holder and queue (R25, R26): distinct waiters other than the holder, at most three, none on a free
unit; the odd member of a linked pair has the even member's holder and an empty queue. -/
abbrev holdingOk (s : State) (i : InputNo) : Prop :=
  let h := s.holding i
  h.queue.Nodup ∧ h.queue.length ≤ 3 ∧ (∀ p ∈ h.queue, h.holder ≠ some p) ∧ (h.holder = none → h.queue = []) ∧
  (i.val % 2 = 1 → s.linked (pairOf i) = true →
    h.holder = (s.holding (evenOf (pairOf i))).holder ∧ h.queue = [])

abbrev holdingsOk (s : State) : Prop := ∀ i, holdingOk s i

/-- Both members of a linked pair have the same gain target, pad requested and mode requested (R74, R77). -/
abbrev linkedRequestsAgree (s : State) : Prop :=
  ∀ k, s.linked k = true →
    (s.input (oddOf k)).gainTarget = (s.input (evenOf k)).gainTarget ∧
    (s.input (oddOf k)).padRequested = (s.input (evenOf k)).padRequested ∧
    (s.input (oddOf k)).modeRequested = (s.input (evenOf k)).modeRequested

/-- A port in the ABSENT state holds no input and waits in no queue (R45), its draft equals its live map with no
commit pending (R118), it has no enabled watch (R163), and its queues are empty, its overrun flag clear and its last
taken count none (R148). -/
abbrev absentOk (s : State) : Prop :=
  ∀ p, (s.port p).attach = .absent →
    (∀ i, (s.holding i).holder ≠ some p ∧ p ∉ (s.holding i).queue) ∧
    (s.mapsOf p).draft = (s.mapsOf p).live ∧ (s.mapsOf p).commitPending = false ∧
    (∀ w, (s.watch p w).enabled = false) ∧
    (s.port p).requests = [] ∧ (s.port p).responses = [] ∧ (s.port p).overrun = false ∧ (s.port p).lastTaken = none

/-! ### Phantom groups (section 1.5) -/

/-- Each timer of a group runs in its own state only (R8, R9, R10). -/
abbrev groupOk (g : PhantomGroup) : Prop :=
  (g.chargeTimer.isSome ↔ g.state = .charging) ∧ (g.dischargeTimer.isSome ↔ g.state = .discharging) ∧
  (g.lowSenseTimer.isSome ↔ g.state = .on ∧ g.sense = .low)

abbrev groupsOk (s : State) : Prop := ∀ g, groupOk (s.group g)

/-! ### Slot maps (chapter 6) and watches (chapter 9) -/

/-- No live map needs more than 7,168 bytes, and neither does a draft that waits to go live (R111). -/
abbrev mapsOk (s : State) : Prop :=
  ∀ p, payload (s.mapsOf p).live ≤ 7168 ∧ ((s.mapsOf p).commitPending = true → payload (s.mapsOf p).draft ≤ 7168)

/-- A watch's threshold lies within -160 to 0 with its threshold level; a disabled watch reports nothing, a watch that
does not latch has no latched bit, and one that is not strict no fault bit (R157, R160, R161). -/
abbrev watchOk (w : Watch) : Prop :=
  -160 ≤ w.threshold ∧ w.threshold ≤ 0 ∧ w.level = 8 * coefficient w.threshold ∧
  (w.enabled = false → w.condition = false ∧ w.latched = false ∧ w.fault = false) ∧
  (w.latch = false → w.latched = false) ∧ (w.strict = false → w.fault = false)

abbrev watchesOk (s : State) : Prop := ∀ p w, watchOk (s.watch p w)

/-! ### Port links (chapter 8) -/

/-- A lane's counts, previous count and timer in each state (R142, R143). -/
abbrev laneOk (l : Lane) : Prop :=
  match l.state with
  | .down => l.validCount = 0 ∧ l.missCount = 0 ∧ l.previous = none ∧ l.missTimer = none
  | .syncing => 1 ≤ l.validCount ∧ l.validCount ≤ 3 ∧ l.missCount = 0 ∧ l.missTimer.isSome = true ∧ l.previous.isSome = true
  | .up => l.validCount = 4 ∧ l.missCount ≤ 2 ∧ l.missTimer.isSome = true ∧ l.previous.isSome = true

/-- A port is ATTACHED while at least one of its lanes is UP; its grace timer runs while it is DETACHED (R146). Each
queue holds at most 8, and a request waits only while the response queue is full (R149 to R151). -/
abbrev linkOk (l : PortLink) : Prop :=
  laneOk l.primary ∧ laneOk l.secondary ∧
  (l.attach = .attached ↔ l.primary.state = .up ∨ l.secondary.state = .up) ∧
  (l.graceTimer.isSome ↔ l.attach = .detached) ∧
  l.requests.length ≤ 8 ∧ l.responses.length ≤ 8 ∧ (l.requests ≠ [] → l.responses.length = 8)

abbrev linksOk (s : State) : Prop := ∀ p, linkOk (s.port p)

/-! ### The clock tracker (chapter 7) -/

/-- The nominal cycle length of the run. -/
abbrev nominal (s : State) : Int := (nominalCycle s.clock.rate : Nat)

/-- An interval that lay within some window lies within N - 16 to N + 16 (R120, R121). -/
abbrev intervalOk (s : State) (d : Int) : Prop := nominal s - 16 ≤ d ∧ d ≤ nominal s + 16

/-- The reference is available (R125). -/
abbrev referenceAvailable (s : State) (r : Port) : Prop :=
  (s.port r).attach = .attached ∧ r ∈ s.store.settings.clockList

/-- A candidate (R125). -/
abbrev isCandidate (s : State) (p : Port) : Prop :=
  p ∈ s.store.settings.clockList ∧ (s.port p).attach = .attached ∧ p ∉ s.clock.refused

/-- The settings' window is one of the four, and the list has distinct ports (10.2). -/
abbrev settingsOk (x : Settings) : Prop := x.window ∈ [2, 4, 8, 16] ∧ x.clockList.Nodup

/-- The clock states (7.5): while the part runs, no candidate exists in FREE (R127), the reference is available in
ACQUIRE and LOCKED (R131, R133), each timer runs in its own state and the counts lie below their limits; L lies within
N - 16 to N + 16 (R120). -/
abbrev clockOk (s : State) : Prop :=
  (s.phase = .running → match s.clock.state with
    | .free => (∀ p, ¬ isCandidate s p) ∧ s.clock.length = nominal s ∧ s.clock.history = [] ∧
        s.clock.acquireTimer = none ∧ s.clock.holdoverTimer = none
    | .acquire r => referenceAvailable s r ∧ r ∉ s.clock.refused ∧ s.clock.inWindow ≤ 7 ∧
        s.clock.acquireTimer.isSome = true ∧ s.clock.holdoverTimer = none
    | .locked r => referenceAvailable s r ∧ s.clock.misses ≤ 2 ∧
        s.clock.acquireTimer = none ∧ s.clock.holdoverTimer = none
    | .holdover _ => s.clock.relockRun.length ≤ 7 ∧ s.clock.acquireTimer = none ∧
        s.clock.holdoverTimer.isSome = true) ∧
  s.clock.history.length ≤ 8 ∧ (∀ d ∈ s.clock.history, intervalOk s d) ∧ (∀ d ∈ s.clock.relockRun, intervalOk s d) ∧
  (nominal s : Rat) - 16 ≤ s.clock.length ∧ s.clock.length ≤ (nominal s : Rat) + 16 ∧ s.clock.refused.Nodup ∧
  settingsOk s.store.settings ∧ settingsOk s.store.settingsCopy.record ∧
  ∀ w, s.store.settingsWrite = some w → settingsOk w.record

/-! ### The settings store (chapter 10) -/

/-- While the part runs, the working copy of the front-end record equals the analog state and the link states it
stores (R18, R70, R171). -/
abbrev workingCopyOk (s : State) : Prop :=
  s.phase = .running →
    (∀ i, s.store.frontEnd.steps.pick i = (s.input i).gainTarget ∧
      s.store.frontEnd.pads.pick i = (s.input i).padInEffect ∧
      s.store.frontEnd.modes.pick i = (s.input i).modeInEffect) ∧
    (∀ g, s.store.frontEnd.phantom.pick g = (s.group g).state.live) ∧
    (∀ k, s.store.frontEnd.linked.pick k = s.linked k)

/-- While the part runs, the two timers of the deferred write run together, and the dirty flag is set exactly while
they run or a write runs (R171, R172). -/
abbrev deferredWriteOk (s : State) : Prop :=
  s.phase = .running →
    (s.store.quietTimer.isSome = s.store.ceilingTimer.isSome) ∧
    (s.store.dirty = true ↔ s.store.quietTimer.isSome = true ∨ s.store.frontEndWrite.isSome = true) ∧
    (∀ w, s.store.frontEndWrite = some w → (w.changed = true ↔ s.store.quietTimer.isSome = true))

/-! ### All of them -/

/-- The whole invariant of the part. -/
abbrev invariant (s : State) : Prop :=
  analogInRange s ∧ recordsOk s ∧ holdingsOk s ∧ linkedRequestsAgree s ∧ absentOk s ∧ groupsOk s ∧ mapsOk s ∧
  watchesOk s ∧ linksOk s ∧ clockOk s ∧ workingCopyOk s ∧ deferredWriteOk s

end Sys2Proof.Safety
end

