-- ==== Sys2Proof/Certificates/Slice0/Obligations.lean ====
section
/-! DEFINITION. The statements for the provers. The abbreviations of `Sys2Proof.Claims` say, from the rules and apart from
the model's own functions, what a command answers and leaves behind; each `Obligations.<Name>` is one statement. A frame
is written as an equation: the next state with the named blocks put back is the state before, so every other field of
the machine is unchanged. -/

namespace Sys2Proof.Claims

open Sys2Proof.Machine Sys2Proof.Safety

/-! ### What the statements share -/

/-- The target byte that names number `n`. -/
abbrev target (n : Nat) : Byte := BitVec.ofNat 8 n

/-- A request of `p` is taken as it arrives: the part runs, the port has attached, nothing waits before the request and
the response queue has a free place (R149, R150). That a request command is one request frame reaching its port's queue
is log entry 13; that the command of a DETACHED port acts too is log entry 27. -/
abbrev ready (s : State) (p : Port) : Prop :=
  s.phase = .running ∧ (s.port p).attach ≠ .absent ∧ (s.port p).requests = [] ∧ (s.port p).responses.length < 8

/-- The links after one response to `p`. -/
abbrev answeredLinks (s : State) (p : Port) (r : Response) : Vector PortLink 4 :=
  s.links.put p { s.port p with responses := (s.port p).responses ++ [r] }

/-- The command answers with one response and changes nothing else. -/
abbrev onlyAnswers (c : Instr) (s : State) (p : Port) (r : Response) : Prop :=
  exec c s = .next { s with links := answeredLinks s p r }

/-- The input is a holding unit's own input: unlinked, or the even member of a linked pair (R25). -/
abbrev isUnit (s : State) (i : InputNo) : Prop := ¬ (i.val % 2 = 1 ∧ s.linked (pairOf i) = true)

/-- The input `j` is a member of the unit kept on `i` (R25). -/
abbrev member (s : State) (i j : InputNo) : Prop := j = i ∨ (s.linked (pairOf i) = true ∧ pairOf j = pairOf i)

/-- A gain in qdB within -160 to +96. -/
abbrev clampQdb (x : Int) : Int := max (-160) (min 96 x)

/-- The record of a non-holder on `e` (R52, R53). -/
abbrev asNonHolder (r : CompRecord) (e : Int) : CompRecord :=
  let raw := r.trim + 4 * (r.anchor - e)
  { r with applied := clampQdb raw, compLimited := decide (raw < -160 ∨ 96 < raw) }

/-- The record of a holder: the applied digital gain is the trim (R52). -/
abbrev asHolder (r : CompRecord) : CompRecord := { r with applied := r.trim, compLimited := false }

/-- The record of a port for its standing (R52). -/
abbrev forStanding (s : State) (p : Port) (i : InputNo) (r : CompRecord) : CompRecord :=
  if isHolder s p i then asHolder r else asNonHolder r (s.input i).effective

/-- The record after a grant on `e` (R57). -/
abbrev granted (r : CompRecord) (e : Int) : CompRecord :=
  asHolder { r with trim := clampQdb (r.trim + 4 * (r.anchor - e)), anchor := e }

/-- The record after a release on `e` (R56). -/
abbrev released (r : CompRecord) (e : Int) : CompRecord := asNonHolder { r with anchor := e } e

/-- The arbiter but for its holdings and records is as before. -/
abbrev keepsLinks (s t : State) : Prop := t.arbiter.linked = s.arbiter.linked ∧ t.arbiter.handed = s.arbiter.handed

/-- The store after a change of a stored front-end value, row by row of the table of R171. -/
abbrev noted (st : Store) (edited : StoredFrontEnd) : Store :=
  let st' := { st with frontEnd := edited, dirty := true, quietTimer := some (Config.ms 2000) }
  match st.frontEndWrite with
  | none => if st.dirty then st' else { st' with ceilingTimer := some (Config.ms 10000) }
  | some w =>
    if w.changed then st'
    else { st' with ceilingTimer := some (Config.ms 10000), frontEndWrite := some { w with changed := true } }

/-- The step of GAIN: the operand clamped to 0 to 60 (R14). -/
abbrev gainStep (a : Half) : Nat := (max 0 (min 60 a.toInt)).toNat

/-- CLAMPED when the operand lay outside its range, DONE otherwise. -/
abbrev clampCode (lo hi : Int) (a : Half) : OutcomeCode := if a.toInt < lo ∨ hi < a.toInt then .clamped else .done

abbrev bit (b : Bool) : Int := if b then 1 else 0

/-- The unit's holder is `p`, at the unit's own input. -/
abbrev heldBy (s : State) (i : InputNo) (p : Port) : Prop := (s.holding i).holder = some p

end Sys2Proof.Claims

open Sys2Proof Sys2Proof.Machine Sys2Proof.Safety Sys2Proof.Claims

/-! ### The step -/

/-- A step executes the command at the front of the queue on the state with the queue's rest; on an empty queue the
block idles (the model's choice, log entry 11). -/
def Obligations.StepRunsTheFrontCommand : Prop :=
  ∀ (c : Instr) (s : State),
    step { s with pending := c :: s.pending } = exec c s ∧ (s.pending = [] → step s = .next s)

/-- Every command answers a next state in every state, and leaves the queue of waiting commands as it is. That a queue
of commands stands (log entries 20 and 25), and that a command answers also where it cannot occur (log entries 9, 26 and
27), without power or in the restart (log entry 5), are the model's choices. -/
def Obligations.EveryCommandAnswersANextState : Prop :=
  ∀ (c : Instr) (s : State), ∃ t, exec c s = .next t ∧ t.pending = s.pending

/-! ### CLAIM and YIELD (chapter 2) -/

/-- A CLAIM on a free unit: the port becomes the holder of every member, its record of each member is re-based on the
member's own E_n, and the outcome is DONE with standing 0 (R28, R36, R57, R79). -/
def Obligations.ClaimOnAFreeUnitGrantsIt : Prop :=
  ∀ (s : State) (p : Port) (i : InputNo), ready s p → isUnit s i →
    (s.holding i).holder = none → (s.holding i).queue = [] →
    ∃ t, exec (.claim p (target i)) s = .next t ∧
      { t with arbiter := s.arbiter, links := s.links } = s ∧ keepsLinks s t ∧
      (∀ j, t.holding j = if member s i j then { s.holding j with holder := some p } else s.holding j) ∧
      (∀ q j, t.record q j =
        if q = p ∧ member s i j then granted (s.record q j) (s.input j).effective else s.record q j) ∧
      t.links = answeredLinks s p { kind := 1, target := target i, outcome := .done, position := 0, value := 0 }

/-- A CLAIM on a unit held by another port, from a port that is not the senior port: a port outside is appended at the
back with QUEUED and its position (R30); a waiting port keeps its position with ALREADY; and the holder's own CLAIM is
ALREADY (R29). Nothing else changes. -/
def Obligations.ClaimOnAHeldUnitQueuesOrIsAlready : Prop :=
  ∀ (s : State) (p : Port) (i : InputNo), ready s p → isUnit s i →
    (heldBy s i p →
      onlyAnswers (.claim p (target i)) s p
        { kind := 1, target := target i, outcome := .already, position := 0, value := 0 }) ∧
    (∀ h, heldBy s i h → h ≠ p → s.store.settings.senior ≠ some p →
      (p ∈ (s.holding i).queue →
        onlyAnswers (.claim p (target i)) s p
          { kind := 1, target := target i, outcome := .already, position := 0,
            value := ((s.holding i).queue.idxOf p : Nat) + 1 }) ∧
      (p ∉ (s.holding i).queue →
        exec (.claim p (target i)) s = .next { s with
          arbiter := { s.arbiter with
            holdings := s.arbiter.holdings.put i { s.holding i with queue := (s.holding i).queue ++ [p] } }
          links := answeredLinks s p
            { kind := 1, target := target i, outcome := .queued, position := (s.holding i).queue.length + 1,
              value := ((s.holding i).queue.length : Nat) + 1 } }))

/-- A CLAIM by the senior port on a unit held by another port: the holder is released with its anchors frozen, stands
at position 1, the senior port leaves the queue and is granted, all on the E_n of the cycle (R31, R59, R79). -/
def Obligations.SeniorClaimDisplacesTheHolder : Prop :=
  ∀ (s : State) (p h : Port) (i : InputNo), ready s p → isUnit s i →
    heldBy s i h → h ≠ p → s.store.settings.senior = some p →
    ∃ t, exec (.claim p (target i)) s = .next t ∧
      { t with arbiter := s.arbiter, links := s.links } = s ∧ keepsLinks s t ∧
      t.holding i = { holder := some p, queue := h :: (s.holding i).queue.erase p } ∧
      (∀ j, j ≠ i → t.holding j =
        if member s i j then { s.holding j with holder := some p } else s.holding j) ∧
      (∀ q j, t.record q j =
        if ¬ member s i j then s.record q j
        else if q = p then granted (s.record q j) (s.input j).effective
        else if q = h then released (s.record q j) (s.input j).effective
        else s.record q j) ∧
      t.links = answeredLinks s p { kind := 1, target := target i, outcome := .done, position := 0, value := 0 }

/-- A YIELD by the holder: the unit is released, and granted to the port at position 1 of the queue, or free where the
queue is empty; both use the E_n of the cycle (R33, R36, R37, R56, R57). -/
def Obligations.YieldByTheHolderPassesTheUnitOn : Prop :=
  ∀ (s : State) (p : Port) (i : InputNo), ready s p → isUnit s i → heldBy s i p → p ∉ (s.holding i).queue →
    ∃ t, exec (.yield p (target i)) s = .next t ∧
      { t with arbiter := s.arbiter, links := s.links } = s ∧ keepsLinks s t ∧
      t.holding i = { holder := (s.holding i).queue.head?, queue := (s.holding i).queue.tail } ∧
      (∀ j, j ≠ i → t.holding j =
        if member s i j then { s.holding j with holder := (s.holding i).queue.head? } else s.holding j) ∧
      (∀ q j, t.record q j =
        if ¬ member s i j then s.record q j
        else if q = p then released (s.record q j) (s.input j).effective
        else if (s.holding i).queue.head? = some q then granted (s.record q j) (s.input j).effective
        else s.record q j) ∧
      t.links = answeredLinks s p { kind := 2, target := target i, outcome := .done, position := 0, value := -1 }

/-- A YIELD by a waiting port withdraws it and the entries behind it close up (R34); a YIELD by a port that neither
holds nor waits is NOT_HOLDER and changes nothing (R35). -/
def Obligations.YieldByAnotherPortWithdrawsOrIsRefused : Prop :=
  ∀ (s : State) (p : Port) (i : InputNo), ready s p → isUnit s i → ¬ heldBy s i p →
    (∀ before after, (s.holding i).queue = before ++ p :: after → p ∉ before → p ∉ after →
      exec (.yield p (target i)) s = .next { s with
        arbiter := { s.arbiter with
          holdings := s.arbiter.holdings.put i { s.holding i with queue := before ++ after } }
        links := answeredLinks s p { kind := 2, target := target i, outcome := .done, position := 0, value := -1 } }) ∧
    (p ∉ (s.holding i).queue →
      onlyAnswers (.yield p (target i)) s p
        { kind := 2, target := target i, outcome := .notHolder, position := 0, value := -1 })

/-! ### Refusals on the target and on holding -/

/-- A target out of range gives BAD_TARGET with value 0 and changes nothing, for every kind that has one (R13, R17,
R27, R60, R63, R71, R105, R155, R158, R162, R169). -/
def Obligations.TargetsOutOfRangeAreRefused : Prop :=
  ∀ (s : State) (p : Port) (t : Byte) (a b : Half), ready s p →
    let bad := fun (kind : Byte) => ({ kind := kind, target := t, outcome := .badTarget, position := 0, value := 0 } : Response)
    (32 ≤ t.toNat →
      onlyAnswers (.claim p t) s p (bad 1) ∧ onlyAnswers (.yield p t) s p (bad 2) ∧
      onlyAnswers (.gain p t a) s p (bad 3) ∧ onlyAnswers (.pad p t a) s p (bad 4) ∧
      onlyAnswers (.mode p t a) s p (bad 5) ∧ onlyAnswers (.trim p t a) s p (bad 7) ∧
      onlyAnswers (.mute p t a) s p (bad 8) ∧ onlyAnswers (.slot p t a b) s p (bad 10)) ∧
    (8 ≤ t.toNat → onlyAnswers (.phantom p t a) s p (bad 6) ∧ onlyAnswers (.watch p t a b) s p (bad 13)) ∧
    (16 ≤ t.toNat → onlyAnswers (.link p t a) s p (bad 9)) ∧
    (8 ≤ t.toNat → t.toNat ≤ 254 → onlyAnswers (.watchClear p t) s p (bad 14)) ∧
    (4 ≤ t.toNat → onlyAnswers (.setting p t a) s p (bad 15))

/-- Requests that name the odd member of a linked pair give LINKED_ODD and change nothing; the value field carries the
odd member's current item, or the requester's standing in the pair's unit (R13, R27, R38, R60, R63). -/
def Obligations.TheOddMemberOfALinkedPairIsRefused : Prop :=
  ∀ (s : State) (p : Port) (k : PairNo) (a : Half), ready s p → s.linked k = true →
    let i := oddOf k
    let odd := fun (kind : Byte) (v : Int) =>
      ({ kind := kind, target := target i, outcome := .linkedOdd, position := 0, value := v } : Response)
    let h := s.holding (evenOf k)
    let standing : Int := if h.holder = some p then 0 else if p ∈ h.queue then (h.queue.idxOf p : Nat) + 1 else -1
    onlyAnswers (.claim p (target i)) s p (odd 1 standing) ∧
    onlyAnswers (.yield p (target i)) s p (odd 2 standing) ∧
    onlyAnswers (.gain p (target i) a) s p (odd 3 ((s.input i).gainTarget : Nat)) ∧
    onlyAnswers (.pad p (target i) a) s p (odd 4 (bit (s.input i).padRequested)) ∧
    onlyAnswers (.mode p (target i) a) s p (odd 5 (bit ((s.input i).modeRequested == .line))) ∧
    onlyAnswers (.trim p (target i) a) s p (odd 7 (s.record p i).trim) ∧
    onlyAnswers (.mute p (target i) a) s p (odd 8 (bit (s.record p i).mute))

/-- GAIN, PAD and MODE from a port that does not hold the unit give NOT_HOLDER with the current item, PAD and MODE
with an operand other than 0 or 1 give BAD_VALUE before the holder check, and neither changes anything (R13, R43). -/
def Obligations.AnalogRequestsNeedTheHolder : Prop :=
  ∀ (s : State) (p : Port) (i : InputNo) (a : Half), ready s p → isUnit s i →
    let pad := bit (s.input i).padRequested
    let mode := bit ((s.input i).modeRequested == .line)
    (a.toInt ≠ 0 → a.toInt ≠ 1 →
      onlyAnswers (.pad p (target i) a) s p
        { kind := 4, target := target i, outcome := .badValue, position := 0, value := pad } ∧
      onlyAnswers (.mode p (target i) a) s p
        { kind := 5, target := target i, outcome := .badValue, position := 0, value := mode }) ∧
    (¬ heldBy s i p →
      onlyAnswers (.gain p (target i) a) s p
        { kind := 3, target := target i, outcome := .notHolder, position := 0,
          value := ((s.input i).gainTarget : Nat) } ∧
      (a.toInt = 0 ∨ a.toInt = 1 →
        onlyAnswers (.pad p (target i) a) s p
          { kind := 4, target := target i, outcome := .notHolder, position := 0, value := pad } ∧
        onlyAnswers (.mode p (target i) a) s p
          { kind := 5, target := target i, outcome := .notHolder, position := 0, value := mode }))

/-! ### GAIN, PAD, MODE and PHANTOM (chapter 1) -/

/-- GAIN from the holder: the gain target of every member becomes the clamped step at once, nothing else of the analog
state changes, and the store takes a change exactly when a target changed (R14, R18, R77, R171). -/
def Obligations.GainSetsTheTargetOfEveryMember : Prop :=
  ∀ (s : State) (p : Port) (i : InputNo) (a : Half), ready s p → isUnit s i → heldBy s i p →
    ∃ t, exec (.gain p (target i) a) s = .next t ∧
      { t with frontEnd := s.frontEnd, store := s.store, links := s.links } = s ∧
      { t.frontEnd with inputs := s.frontEnd.inputs } = s.frontEnd ∧
      (∀ j, t.input j = if member s i j then { s.input j with gainTarget := gainStep a } else s.input j) ∧
      t.store =
        (if ∃ j, member s i j ∧ (s.input j).gainTarget ≠ gainStep a then
          noted s.store { s.store.frontEnd with
            steps := .fill fun j =>
              if member s i j ∧ (s.input j).gainTarget ≠ gainStep a then gainStep a
              else s.store.frontEnd.steps.pick j }
        else s.store) ∧
      t.links = answeredLinks s p
        { kind := 3, target := target i, outcome := clampCode 0 60 a, position := 0, value := (gainStep a : Nat) }

/-- PAD and MODE from the holder: the pad or mode requested of every member takes the operand, nothing else changes,
and the value field returns it; what is in effect does not change before the next cycle start (R15, R16, R77). -/
def Obligations.PadAndModeSetTheRequestedValues : Prop :=
  ∀ (s : State) (p : Port) (i : InputNo) (on : Bool), ready s p → isUnit s i → heldBy s i p →
    (∃ t, exec (.pad p (target i) (BitVec.ofNat 16 on.toNat)) s = .next t ∧
      { t with frontEnd := s.frontEnd, links := s.links } = s ∧
      { t.frontEnd with inputs := s.frontEnd.inputs } = s.frontEnd ∧
      (∀ j, t.input j = if member s i j then { s.input j with padRequested := on } else s.input j) ∧
      t.links = answeredLinks s p
        { kind := 4, target := target i, outcome := .done, position := 0, value := bit on }) ∧
    (∃ t, exec (.mode p (target i) (BitVec.ofNat 16 on.toNat)) s = .next t ∧
      { t with frontEnd := s.frontEnd, links := s.links } = s ∧
      { t.frontEnd with inputs := s.frontEnd.inputs } = s.frontEnd ∧
      (∀ j, t.input j =
        if member s i j then { s.input j with modeRequested := if on then .line else .mic } else s.input j) ∧
      t.links = answeredLinks s p
        { kind := 5, target := target i, outcome := .done, position := 0, value := bit on })

/-- The group after PHANTOM on or off: the two columns of the table of section 1.5, with their timers. -/
abbrev Sys2Proof.Claims.phantomTable (g : PhantomGroup) (on : Bool) : PhantomGroup :=
  match g.state, on with
  | .off, true | .fault, true => { g with state := .charging, chargeTimer := some (Config.ms 600) }
  | .discharging, true =>
    { g with state := .charging, dischargeTimer := none, chargeTimer := some (Config.ms 600) }
  | .charging, false =>
    { g with state := .discharging, chargeTimer := none, dischargeTimer := some (Config.ms 300) }
  | .on, false =>
    { g with state := .discharging, lowSenseTimer := none, dischargeTimer := some (Config.ms 300) }
  | .fault, false => { g with state := .off }
  | .charging, true | .on, true | .off, false | .discharging, false => g

/-- A group's phantom requested: CHARGING or ON (R7). -/
abbrev Sys2Proof.Claims.phantomRequested (g : PhantomGroup) : Bool := g.state == .charging || g.state == .on

/-- What a change of one group does beside the group itself: its MIC inputs are noted as reached by phantom where the
new state supplies them (R7; that a supply within a cycle counts for that cycle is log entry 12), and a change of phantom
requested goes to the store (R18). -/
abbrev Sys2Proof.Claims.groupBecomes (s t : State) (g : GroupNo) (x : PhantomGroup) : Prop :=
  { t.frontEnd with inputs := s.frontEnd.inputs, groups := s.frontEnd.groups } = s.frontEnd ∧
  t.frontEnd.groups = s.frontEnd.groups.put g x ∧
  (∀ j, t.input j =
    if groupOf j = g ∧ (s.input j).modeInEffect = .mic ∧ phantomRequested x = true
    then { s.input j with phantomReached := true } else s.input j) ∧
  t.store =
    (if phantomRequested (s.group g) = phantomRequested x then s.store
    else noted s.store { s.store.frontEnd with phantom := s.store.frontEnd.phantom.put g (phantomRequested x) })

/-- The code of a group state (8.8.4). -/
abbrev Sys2Proof.Claims.groupCode : PhantomState → Int
  | .off => 0
  | .charging => 1
  | .on => 2
  | .discharging => 3
  | .fault => 4

/-- PHANTOM: an operand other than 0 or 1 is BAD_VALUE; a group with an input held by another port is CONTESTED; neither
changes anything. Otherwise the group follows the table of section 1.5 and the outcome is DONE with its new state
(R7 to R11, R17, R18); that a supply that begins within a cycle counts as phantom applied in it is read from R7 (log
entry 12). -/
def Obligations.PhantomFollowsTheGroupTable : Prop :=
  ∀ (s : State) (p : Port) (g : GroupNo) (a : Half), ready s p →
    let contested := ∃ j h, groupOf j = g ∧ (s.holding j).holder = some h ∧ h ≠ p
    let refuse := fun (o : OutcomeCode) =>
      ({ kind := 6, target := target g, outcome := o, position := 0, value := groupCode (s.group g).state } : Response)
    (a.toInt ≠ 0 → a.toInt ≠ 1 → onlyAnswers (.phantom p (target g) a) s p (refuse .badValue)) ∧
    (a.toInt = 0 ∨ a.toInt = 1 → contested →
      onlyAnswers (.phantom p (target g) a) s p (refuse .contested)) ∧
    (a.toInt = 0 ∨ a.toInt = 1 → ¬ contested →
      let x := phantomTable (s.group g) (a.toInt = 1)
      ∃ t, exec (.phantom p (target g) a) s = .next t ∧
        { t with frontEnd := s.frontEnd, store := s.store, links := s.links } = s ∧ groupBecomes s t g x ∧
        t.links = answeredLinks s p
          { kind := 6, target := target g, outcome := .done, position := 0, value := groupCode x.state })

/-! ### TRIM and MUTE (chapter 3) -/

/-- TRIM: the port's trim of every member becomes the clamped operand, and its applied digital gain and comp-limited
flag are recomputed for its standing on each member's own anchor and E_n; no other record changes (R60, R61, R77). -/
def Obligations.TrimWritesThePortsOwnRecords : Prop :=
  ∀ (s : State) (p : Port) (i : InputNo) (a : Half), ready s p → isUnit s i →
    ∃ t, exec (.trim p (target i) a) s = .next t ∧
      { t with arbiter := s.arbiter, links := s.links } = s ∧ keepsLinks s t ∧
      t.arbiter.holdings = s.arbiter.holdings ∧
      (∀ q j, t.record q j =
        if q = p ∧ member s i j then forStanding s p j { s.record q j with trim := clampQdb a.toInt }
        else s.record q j) ∧
      t.links = answeredLinks s p
        { kind := 7, target := target i, outcome := clampCode (-160) 96 a, position := 0, value := clampQdb a.toInt }

/-- MUTE: an operand other than 0 or 1 is BAD_VALUE and changes nothing; otherwise the port's mute of every member takes
the operand, and the record is recomputed for the port's standing (R54, R63, R77; log entry 17). -/
def Obligations.MuteWritesThePortsOwnRecords : Prop :=
  ∀ (s : State) (p : Port) (i : InputNo) (a : Half), ready s p → isUnit s i →
    (a.toInt ≠ 0 → a.toInt ≠ 1 →
      onlyAnswers (.mute p (target i) a) s p
        { kind := 8, target := target i, outcome := .badValue, position := 0, value := bit (s.record p i).mute }) ∧
    (a.toInt = 0 ∨ a.toInt = 1 →
      ∃ t, exec (.mute p (target i) a) s = .next t ∧
        { t with arbiter := s.arbiter, links := s.links } = s ∧ keepsLinks s t ∧
        t.arbiter.holdings = s.arbiter.holdings ∧
        (∀ q j, t.record q j =
          if q = p ∧ member s i j then forStanding s p j { s.record q j with mute := decide (a.toInt = 1) }
          else s.record q j) ∧
        t.links = answeredLinks s p
          { kind := 8, target := target i, outcome := .done, position := 0, value := a.toInt })

/-! ### LINK (chapter 4) -/

/-- The odd member has no holder other than `p` and an empty queue: check 4 of R71. -/
abbrev Sys2Proof.Claims.oddClear (s : State) (p : Port) (k : PairNo) : Prop :=
  ((s.holding (oddOf k)).holder = none ∨ heldBy s (oddOf k) p) ∧ (s.holding (oddOf k)).queue = []

/-- LINK's checks in order, and the requests that change nothing: BAD_VALUE, NOT_HOLDER, CONTESTED, and DONE for the
link state already in effect (R71, R72). -/
def Obligations.LinkIsCheckedInOrder : Prop :=
  ∀ (s : State) (p : Port) (k : PairNo) (a : Half), ready s p →
    let even := (s.holding (evenOf k)).holder
    let answer := fun (o : OutcomeCode) =>
      ({ kind := 9, target := target k, outcome := o, position := 0, value := bit (s.linked k) } : Response)
    (a.toInt ≠ 0 → a.toInt ≠ 1 → onlyAnswers (.link p (target k) a) s p (answer .badValue)) ∧
    (a.toInt = 1 → even ≠ some p → onlyAnswers (.link p (target k) a) s p (answer .notHolder)) ∧
    (a.toInt = 1 → even = some p → ¬ oddClear s p k → onlyAnswers (.link p (target k) a) s p (answer .contested)) ∧
    (a.toInt = 1 → even = some p → oddClear s p k → s.linked k = true →
      onlyAnswers (.link p (target k) a) s p (answer .done)) ∧
    (a.toInt = 0 → even ≠ some p → even ≠ none → onlyAnswers (.link p (target k) a) s p (answer .notHolder)) ∧
    (a.toInt = 0 → even = some p ∨ even = none → s.linked k = false →
      onlyAnswers (.link p (target k) a) s p (answer .done))

/-- LINK on, accepted: the pair becomes linked with its holder on both members, the odd member's requested analog state
is set to the even member's, and every port's trim, mute and anchor are copied and recomputed on the odd member's E_n,
the holder's anchor being that E_n (R73, R74, R75). -/
def Obligations.LinkOnConformsTheOddMember : Prop :=
  ∀ (s : State) (p : Port) (k : PairNo), ready s p → s.linked k = false →
    heldBy s (evenOf k) p → oddClear s p k →
    let odd := oddOf k
    let even := evenOf k
    let e := (s.input odd).effective
    ∃ t, exec (.link p (target k) 1) s = .next t ∧
      { t with frontEnd := s.frontEnd, arbiter := s.arbiter, store := s.store, links := s.links } = s ∧
      t.arbiter.handed = s.arbiter.handed ∧ t.arbiter.linked = s.arbiter.linked.put k true ∧
      t.arbiter.holdings = s.arbiter.holdings.put odd { holder := some p, queue := [] } ∧
      { t.frontEnd with inputs := s.frontEnd.inputs } = s.frontEnd ∧
      t.frontEnd.inputs = s.frontEnd.inputs.put odd
        { s.input odd with
          gainTarget := (s.input even).gainTarget
          padRequested := (s.input even).padRequested
          modeRequested := (s.input even).modeRequested } ∧
      (∀ q j, t.record q j =
        if j ≠ odd then s.record q j
        else
          let r := { s.record q odd with trim := (s.record q even).trim, mute := (s.record q even).mute }
          if q = p then asHolder { r with anchor := e } else asNonHolder { r with anchor := (s.record q even).anchor } e) ∧
      t.store = noted s.store { s.store.frontEnd with
        linked := s.store.frontEnd.linked.put k true
        steps := if (s.input odd).gainTarget = (s.input even).gainTarget then s.store.frontEnd.steps
          else s.store.frontEnd.steps.put odd (s.input even).gainTarget } ∧
      t.links = answeredLinks s p { kind := 9, target := target k, outcome := .done, position := 0, value := 1 }

/-- LINK off, accepted: the pair becomes two units; the odd member keeps the even member's holder with an empty queue,
and no analog state and no record changes (R76). -/
def Obligations.LinkOffMakesTwoUnits : Prop :=
  ∀ (s : State) (p : Port) (k : PairNo), ready s p → s.linked k = true →
    (s.holding (evenOf k)).holder = some p ∨ (s.holding (evenOf k)).holder = none →
    exec (.link p (target k) 0) s = .next { s with
      arbiter := { s.arbiter with
        linked := s.arbiter.linked.put k false
        holdings := s.arbiter.holdings.put (oddOf k) { holder := (s.holding (evenOf k)).holder, queue := [] } }
      store := noted s.store { s.store.frontEnd with linked := s.store.frontEnd.linked.put k false }
      links := answeredLinks s p { kind := 9, target := target k, outcome := .done, position := 0, value := 0 } }

/-! ### SLOT and COMMIT (chapter 6), ROUND (chapter 5) -/

/-- The value field for an entry (R107). -/
abbrev Sys2Proof.Claims.entryCode : Option SlotEntry → Int
  | none => -1
  | some { input := i, format := .fix16 } => (i.val : Int) * 4
  | some { input := i, format := .fix24 } => (i.val : Int) * 4 + 1
  | some { input := i, format := .flt32 } => (i.val : Int) * 4 + 2

/-- The entry that SLOT's operands ask for: -1 for EMPTY, an input with a format otherwise (section 6.3). -/
abbrev Sys2Proof.Claims.entryOf (a b : Half) : Option (Option SlotEntry) :=
  if a.toInt = -1 then some none
  else if h : a.toNat < 32 then
    (if b.toInt = 0 then some (some { input := ⟨a.toNat, h⟩, format := .fix16 })
    else if b.toInt = 1 then some (some { input := ⟨a.toNat, h⟩, format := .fix24 })
    else if b.toInt = 2 then some (some { input := ⟨a.toNat, h⟩, format := .flt32 })
    else none)
  else none

/-- SLOT on a slot 0 to 31: PENDING while a commit is pending; then BAD_TARGET for an operand A that is neither -1 nor
an input; then BAD_VALUE for an unknown format code unless operand A is -1; none of these changes anything. Otherwise
the one draft slot is written, and the value field carries it (R105, R106, R107). -/
def Obligations.SlotIsCheckedAndWritesTheDraft : Prop :=
  ∀ (s : State) (p : Port) (k : SlotNo) (a b : Half), ready s p →
    let m := s.mapsOf p
    let answer := fun (o : OutcomeCode) (v : Int) =>
      ({ kind := 10, target := target k, outcome := o, position := 0, value := v } : Response)
    (m.commitPending = true →
      onlyAnswers (.slot p (target k) a b) s p (answer .pending (entryCode (m.draft.pick k)))) ∧
    (m.commitPending = false → a.toInt ≠ -1 → a.toInt < 0 ∨ 31 < a.toInt →
      onlyAnswers (.slot p (target k) a b) s p (answer .badTarget 0)) ∧
    (m.commitPending = false → 0 ≤ a.toInt → a.toInt ≤ 31 → b.toInt ∉ [0, 1, 2] →
      onlyAnswers (.slot p (target k) a b) s p (answer .badValue (entryCode (m.draft.pick k)))) ∧
    (m.commitPending = false → ∀ e, entryOf a b = some e →
      exec (.slot p (target k) a b) s = .next { s with
        maps := s.maps.put p { m with draft := m.draft.put k e }
        links := answeredLinks s p (answer .done (entryCode e)) })

/-- COMMIT: PENDING with the coming generation while a commit is pending; BANDWIDTH with the payload above 7,168 bytes;
otherwise the commit-pending flag is set, with DONE and the coming generation (R108, R109). -/
def Obligations.CommitIsDecidedByThePayload : Prop :=
  ∀ (s : State) (p : Port) (t : Byte), ready s p →
    let m := s.mapsOf p
    let bytes : Nat := ((List.finRange 32).map fun k =>
      match m.draft.pick k with
      | none => 0
      | some { format := .fix16, .. } => 128
      | some { format := .fix24, .. } => 192
      | some { format := .flt32, .. } => 256).sum
    let next : Int := (((m.generation.toNat + 1) % 256 : Nat) : Int)
    let answer := fun (o : OutcomeCode) (v : Int) =>
      ({ kind := 11, target := t, outcome := o, position := 0, value := v } : Response)
    (m.commitPending = true → onlyAnswers (.commit p t) s p (answer .pending next)) ∧
    (m.commitPending = false → 7168 < bytes → onlyAnswers (.commit p t) s p (answer .bandwidth (bytes : Int))) ∧
    (m.commitPending = false → bytes ≤ 7168 →
      exec (.commit p t) s = .next { s with
        maps := s.maps.put p { m with commitPending := true }
        links := answeredLinks s p (answer .done next) })

/-- The code of a rounding mode (R90). -/
abbrev Sys2Proof.Claims.roundCode : Rounding → Int
  | .nearest => 0
  | .towardZero => 1
  | .floor => 2

/-- ROUND: an operand 0, 1 or 2 sets the port's rounding mode requested, any other is BAD_VALUE and changes nothing; the
value field carries the mode requested (R94). -/
def Obligations.RoundSetsTheModeRequested : Prop :=
  ∀ (s : State) (p : Port) (t : Byte) (a : Half), ready s p →
    (a.toInt ∉ [0, 1, 2] →
      onlyAnswers (.round p t a) s p
        { kind := 12, target := t, outcome := .badValue, position := 0, value := roundCode (s.level.requested.pick p) }) ∧
    (∀ m, roundCode m = a.toInt →
      exec (.round p t a) s = .next { s with
        level := { s.level with requested := s.level.requested.put p m }
        links := answeredLinks s p { kind := 12, target := t, outcome := .done, position := 0, value := a.toInt } })

/-! ### WATCH and WATCH_CLEAR (chapter 9) -/

/-- WATCH: an input above 31 in the high byte of operand A is BAD_TARGET; otherwise every field of the watch is written
from the operands, the threshold clamped to -160 to 0 with level 8 times its coefficient, and its results cleared
(R157, R158). -/
def Obligations.WatchWritesEveryField : Prop :=
  ∀ (s : State) (p : Port) (w : WatchNo) (a b : Half), ready s p →
    let high := a.toNat / 256
    let low := a.toNat % 256
    let threshold : Int := max (-160) (min 0 b.toInt)
    (31 < high →
      onlyAnswers (.watch p (target w) a b) s p
        { kind := 13, target := target w, outcome := .badTarget, position := 0, value := 0 }) ∧
    (∀ i : InputNo, high = i.val →
      exec (.watch p (target w) a b) s = .next { s with
        watches := s.watches.put p ((s.watches.pick p).put w
          { input := i
            mask :=
              { less := low % 2 = 1, equal := low / 2 % 2 = 1, greater := low / 4 % 2 = 1, void := low / 8 % 2 = 1 }
            latch := low / 16 % 2 = 1
            strict := low / 32 % 2 = 1
            threshold := threshold
            level := 8 * coefficient threshold
            condition := false
            latched := false
            fault := false })
        links := answeredLinks s p
          { kind := 13, target := target w, outcome := clampCode (-160) 0 b, position := 0, value := threshold } })

/-- WATCH_CLEAR: the latched and fault bits of the named watch, or of all eight for target 255, are cleared and nothing
else of any watch changes; the value field carries the port's fault word after it (R162). -/
def Obligations.WatchClearClearsTheBits : Prop :=
  ∀ (s : State) (p : Port) (c : Byte), ready s p → c.toNat < 8 ∨ c = 255 →
    let hit := fun (w : WatchNo) => c = 255 ∨ c.toNat = w.val
    let word : Nat := ((List.finRange 8).map fun w =>
      if ¬ hit w ∧ (s.watch p w).fault = true then 2 ^ w.val else 0).sum
    ∃ t, exec (.watchClear p c) s = .next t ∧ { t with watches := s.watches, links := s.links } = s ∧
      (∀ q w, t.watch q w =
        if q = p ∧ hit w then { s.watch q w with latched := false, fault := false } else s.watch q w) ∧
      t.links = answeredLinks s p { kind := 14, target := c, outcome := .done, position := 0, value := (word : Int) }

/-! ### SETTING and FACTORY (chapter 10) -/

/-- The settings with an operand put into an item other than CLOCK_LIST, where it is in the item's set (10.2). -/
abbrev Sys2Proof.Claims.settingOf (x : Settings) (item : Nat) (a : Int) : Option Settings :=
  match item, a with
  | 0, 0 => some { x with rate := .khz48 }
  | 0, 1 => some { x with rate := .khz96 }
  | 2, 2 => some { x with window := 2 }
  | 2, 4 => some { x with window := 4 }
  | 2, 8 => some { x with window := 8 }
  | 2, 16 => some { x with window := 16 }
  | 3, -1 => some { x with senior := none }
  | 3, 0 => some { x with senior := some 0 }
  | 3, 1 => some { x with senior := some 1 }
  | 3, 2 => some { x with senior := some 2 }
  | 3, 3 => some { x with senior := some 3 }
  | _, _ => none

/-- The stored value of an item other than CLOCK_LIST (10.2). -/
abbrev Sys2Proof.Claims.settingCode (x : Settings) (item : Nat) : Int :=
  match item with
  | 0 => if x.rate = .khz48 then 0 else 1
  | 2 => (x.window : Nat)
  | _ => match x.senior with
    | none => -1
    | some q => (q.val : Int)

/-- The store after an accepted setting: a change starts a write of the record, or is noted in the one that runs; the
value already stored starts no write (R169). -/
abbrev Sys2Proof.Claims.settled (st : Store) (x : Settings) : Store :=
  if x = st.settings then st
  else { st with
    settings := x
    settingsWrite := match st.settingsWrite with
      | none => some { record := x, again := false }
      | some w => some { w with again := true } }

/-- SETTING of RATE, WINDOW or SENIOR: SETUP_ONLY in RUN and BAD_VALUE outside the item's set, both with the stored
value and no change; otherwise the value is replaced and a change is written (R168, R169). -/
def Obligations.SettingReplacesTheStoredValue : Prop :=
  ∀ (s : State) (p : Port) (item : Nat) (a : Half), ready s p → item ∈ [0, 2, 3] →
    let answer := fun (o : OutcomeCode) (x : Settings) =>
      ({ kind := 15, target := target item, outcome := o, position := 0, value := settingCode x item } : Response)
    (s.store.position = .run →
      onlyAnswers (.setting p (target item) a) s p (answer .setupOnly s.store.settings)) ∧
    (s.store.position = .setup → settingOf s.store.settings item a.toInt = none →
      onlyAnswers (.setting p (target item) a) s p (answer .badValue s.store.settings)) ∧
    (s.store.position = .setup → ∀ x, settingOf s.store.settings item a.toInt = some x →
      exec (.setting p (target item) a) s = .next { s with
        store := settled s.store x
        links := answeredLinks s p (answer .done x) })

/-- The list of four nibbles, first entry in bits 15 to 12 (10.2). -/
abbrev Sys2Proof.Claims.nibblesOf (a : Half) : List Nat :=
  [a.toNat / 4096, a.toNat / 256 % 16, a.toNat / 16 % 16, a.toNat % 16]

/-- The first candidate of a state: the earliest of the list that is ATTACHED and not refused (R125). -/
abbrev Sys2Proof.Claims.firstOf (s : State) (refused : List Port) (l : List Port) : Option Port :=
  (l.filter fun q => (s.port q).attach = .attached ∧ q ∉ refused).head?

/-- Entry to ACQUIRE on `r` (R124, R128). -/
abbrev Sys2Proof.Claims.acquiring (c : Clock) (r : Port) : Clock :=
  { c with state := .acquire r, inWindow := 0, history := [], predecessor := none,
           acquireTimer := some (Config.ms 2000), holdoverTimer := none }

/-- Entry to FREE (R124, R127). -/
abbrev Sys2Proof.Claims.freed (c : Clock) : Clock :=
  { c with state := .free, history := [], length := ((if c.rate = .khz48 then 32768 else 16384 : Nat) : Rat),
           predecessor := none, acquireTimer := none, holdoverTimer := none }

/-- Entry to HOLDOVER on `r` (R124, R134). -/
abbrev Sys2Proof.Claims.heldOver (c : Clock) (r : Port) : Clock :=
  { c with state := .holdover r, relockRun := [], predecessor := none, holdoverTimer := some (Config.ms 10000) }

/-- ACQUIRE on a port, or FREE where there is none. -/
abbrev Sys2Proof.Claims.acquiringOr (c : Clock) : Option Port → Clock
  | some r => acquiring c r
  | none => freed c

/-- The nibbles of a list: its ports, then 0xF where there is none (10.2). -/
abbrev Sys2Proof.Claims.listNibbles (l : List Port) : List Nat := l.map Fin.val ++ List.replicate (4 - l.length) 15

/-- The CLOCK_LIST value of a list, a signed 16-bit number (10.2, R169). -/
abbrev Sys2Proof.Claims.listCode (l : List Port) : Int :=
  let n : Int := ((listNibbles l).foldl (fun acc x => acc * 16 + x) 0 : Nat)
  if n < 32768 then n else n - 65536

/-- SETTING of CLOCK_LIST: SETUP_ONLY in RUN, BAD_VALUE for an operand that is no list, both with the stored list and no
change. An accepted write with the list `l` replaces the list, empties the refused set, and acts on the clock state by
the table of R136 (R168, R169). -/
def Obligations.ClockListWriteActsOnTheClock : Prop :=
  ∀ (s : State) (p : Port) (a : Half), ready s p → s.store.settings.clockList.Nodup →
    let answer := fun (o : OutcomeCode) (v : Int) =>
      ({ kind := 15, target := 1, outcome := o, position := 0, value := v } : Response)
    (s.store.position = .run →
      onlyAnswers (.setting p 1 a) s p (answer .setupOnly (listCode s.store.settings.clockList))) ∧
    (s.store.position = .setup → (¬ ∃ l : List Port, l.Nodup ∧ nibblesOf a = listNibbles l) →
      onlyAnswers (.setting p 1 a) s p (answer .badValue (listCode s.store.settings.clockList))) ∧
    (s.store.position = .setup → ∀ l : List Port, l.Nodup → nibblesOf a = listNibbles l →
      let c := { s.clock with refused := [] }
      let first := firstOf s [] l
      exec (.setting p 1 a) s = .next { s with
        store := settled s.store { s.store.settings with clockList := l }
        clock := match s.clock.state with
          | .free => match first with
            | none => c
            | some r => acquiring c r
          | .acquire r => if r ∈ l then c else acquiringOr c first
          | .locked r => if r ∈ l then c else heldOver c r
          | .holdover r => if r ∈ l then c else { c with relockRun := [], predecessor := none }
        links := answeredLinks s p (answer .done a.toInt) })

/-- FACTORY: SETUP_ONLY in RUN, changing nothing; in SETUP it is accepted with DONE, and the first accepted one is kept
with its port, whose response's leaving begins the restart (R168, R170; log entry 24). -/
def Obligations.FactoryIsAcceptedInSetup : Prop :=
  ∀ (s : State) (p : Port) (t : Byte), ready s p →
    (s.store.position = .run →
      onlyAnswers (.factory p t) s p { kind := 16, target := t, outcome := .setupOnly, position := 0, value := 0 }) ∧
    (s.store.position = .setup →
      exec (.factory p t) s = .next { s with
        store := { s.store with factoryPort := if s.store.factoryPort = none then some p else s.store.factoryPort }
        links := answeredLinks s p { kind := 16, target := t, outcome := .done, position := 0, value := 0 } })

/-! ### UNKNOWN and the request queue (chapter 8) -/

/-- A request with a kind outside 0x01 to 0x10 is answered UNKNOWN with kind and target echoed, position 0 and value 0,
and changes nothing (R155). -/
def Obligations.UnknownKindsAreAnswered : Prop :=
  ∀ (s : State) (p : Port) (kind t : Byte), ready s p → kind.toNat = 0 ∨ 16 < kind.toNat →
    onlyAnswers (.unknown p kind t) s p { kind := kind, target := t, outcome := .unknown, position := 0, value := 0 }

/-- The command that a request frame stands for (R154, R155). -/
abbrev Sys2Proof.Claims.commandOf (p : Port) (r : Request) : Instr :=
  match r.kind.toNat with
  | 1 => .claim p r.target
  | 2 => .yield p r.target
  | 3 => .gain p r.target r.a
  | 4 => .pad p r.target r.a
  | 5 => .mode p r.target r.a
  | 6 => .phantom p r.target r.a
  | 7 => .trim p r.target r.a
  | 8 => .mute p r.target r.a
  | 9 => .link p r.target r.a
  | 10 => .slot p r.target r.a r.b
  | 11 => .commit p r.target
  | 12 => .round p r.target r.a
  | 13 => .watch p r.target r.a r.b
  | 14 => .watchClear p r.target
  | 15 => .setting p r.target r.a
  | 16 => .factory p r.target
  | _ => .unknown p r.kind r.target

/-- The operands that the kind does not use are 0 in the frame. -/
abbrev Sys2Proof.Claims.plainFrame (r : Request) : Prop :=
  r.kind.toNat ∈ [10, 13] ∨ (r.b = 0 ∧ (r.kind.toNat ∈ [3, 4, 5, 6, 7, 8, 9, 12, 15] ∨ r.a = 0))

/-- Every request command (its frame `r` names it, and the operands its kind does not read are 0): at a port whose
response queue is full the request waits at the back of the request queue, and one that finds 8 requests there is
dropped, with the overrun flag set. Nothing else changes (R149, R150). That a request command is one request frame
reaching its port's queue is read from the table (log entries 13 and 22; from a DETACHED port, log entry 27). -/
def Obligations.ARequestWaitsOrOverruns : Prop :=
  ∀ (s : State) (p : Port) (r : Request), plainFrame r →
    s.phase = .running → (s.port p).attach ≠ .absent → (s.port p).responses.length = 8 →
    ((s.port p).requests.length < 8 →
      exec (commandOf p r) s = .next { s with
        links := s.links.put p { s.port p with requests := (s.port p).requests ++ [r] } }) ∧
    (8 ≤ (s.port p).requests.length →
      exec (commandOf p r) s = .next { s with links := s.links.put p { s.port p with overrun := true } })

/-! ### Frames and CRCs (chapter 8) -/

/-- The 8 bytes of a request frame (8.8.1). -/
abbrev Sys2Proof.Claims.frameBytes (r : Request) : List Byte :=
  let body := [r.kind, r.target, r.a.extractLsb' 8 8, r.a.extractLsb' 0 8, r.b.extractLsb' 8 8, r.b.extractLsb' 0 8]
  body ++ [(crc16 body).extractLsb' 8 8, (crc16 body).extractLsb' 0 8]

/-- Bytes followed by their CRC, most significant byte first, bring the CRC register to 0: the CRC of R140 covers every
block, response and frame that carries one. -/
def Obligations.BytesWithTheirCrcLeaveZero : Prop :=
  ∀ bytes : List Byte, crc16 (withCrc bytes) = 0

/-- Request frames read back: every sequence of at most 4 frames is parsed to the requests it encodes, and a copy with a
frame whose CRC bytes are altered is not parsed (8.8.1, R141, R153). -/
def Obligations.RequestFramesReadBack : Prop :=
  (∀ requests : List Request,
    parseFrames requests.length (requests.map frameBytes).flatten = some requests) ∧
  ∀ (before after : List Request) (r : Request) (bad : BitVec 16), bad ≠ crc16 ((frameBytes r).take 6) →
    parseFrames (before.length + 1 + after.length)
      ((before.map frameBytes).flatten
        ++ ((frameBytes r).take 6 ++ [bad.extractLsb' 8 8, bad.extractLsb' 0 8])
        ++ (after.map frameBytes).flatten) = none

/-! ### Copies (chapter 8) -/

/-- A lane of a port. -/
abbrev Sys2Proof.Claims.laneAt (s : State) (p : Port) : LaneId → Lane
  | .primary => (s.port p).primary
  | .secondary => (s.port p).secondary

/-- The port's link with one lane replaced. -/
abbrev Sys2Proof.Claims.linkWith (x : PortLink) (l : LaneId) (y : Lane) : PortLink :=
  match l with
  | .primary => { x with primary := y }
  | .secondary => { x with secondary := y }

/-- The state with one lane replaced. -/
abbrev Sys2Proof.Claims.withLane (s : State) (p : Port) (l : LaneId) (y : Lane) : State :=
  { s with links := s.links.put p (linkWith (s.port p) l y) }

/-- COPY_START ends the copy in progress exactly as SIGNAL_LOSS does, and then begins a new copy whose header has not
arrived; a SIGNAL_LOSS on a lane without a copy in progress changes nothing (R141). -/
def Obligations.CopyStartEndsTheCopyAndBeginsOne : Prop :=
  ∀ (s : State) (p : Port) (l : LaneId) (rest : List Byte), s.phase = .running →
    (∃ t, exec (.signalLoss p l rest) s = .next t ∧ (laneAt t p l).copy = none ∧
      exec (.copyStart p l rest) s = .next (withLane t p l { laneAt t p l with copy := some { header := none } })) ∧
    ((laneAt s p l).copy = none → exec (.signalLoss p l rest) s = .next s)

/-- Length error: a valid header asks for more than four frames, or the copy does not hold the frames it asks for
(R141). -/
abbrev Sys2Proof.Claims.lengthWrong (h : ArrivedHeader) (rest : List Byte) : Prop :=
  h.valid = true ∧ (4 < h.requests.toNat ∨ rest.length ≠ 8 * h.requests.toNat)

/-- A request frame of the copy fails its CRC (R141). -/
abbrev Sys2Proof.Claims.frameFails (h : ArrivedHeader) (rest : List Byte) : Prop :=
  ∃ k < h.requests.toNat,
    let frame := (rest.drop (8 * k)).take 8
    crc16 (frame.take 6) ≠ (frame.getD 6 0) ++ (frame.getD 7 0)

/-- CRC error (R141). -/
abbrev Sys2Proof.Claims.crcWrong (h : ArrivedHeader) (rest : List Byte) : Prop :=
  h.valid = false ∨ (¬ lengthWrong h rest ∧ frameFails h rest)

/-- The count is 1 to 127 ahead of the last taken count, or there is none (R145). -/
abbrev Sys2Proof.Claims.countTakes (count : Byte) : Option Byte → Prop
  | none => True
  | some last => 1 ≤ (count - last).toNat ∧ (count - last).toNat ≤ 127

/-- The copy is taken: the lane is UP, the copy usable and its count fresh (R145). -/
abbrev Sys2Proof.Claims.isTaken (s : State) (p : Port) (l : LaneId) (h : ArrivedHeader) (rest : List Byte) : Prop :=
  (laneAt s p l).state = .up ∧ h.valid = true ∧ ¬ lengthWrong h rest ∧ ¬ crcWrong h rest ∧
  countTakes h.count (s.port p).lastTaken

/-- The lane status record of a copy whose header arrived (R144). -/
abbrev Sys2Proof.Claims.statusOf (h : ArrivedHeader) (rest : List Byte) (taken : Bool) : LaneStatus where
  headerValid := h.valid
  crcError := decide (crcWrong h rest)
  lengthError := decide (lengthWrong h rest)
  countError := h.countError
  copyTaken := taken

/-- A copy that ends and is not taken rewrites the lane status record and changes nothing else; a copy of fewer than 4
bytes has no valid header, and its CRC error indication is the free value of log entry 6 (R141, R144, R145). -/
def Obligations.AnUntakenCopyOnlyRewritesTheStatus : Prop :=
  ∀ (s : State) (p : Port) (l : LaneId) (rest : List Byte), s.phase = .running →
    (∀ h, (laneAt s p l).copy = some { header := some h } → ¬ isTaken s p l h rest →
      exec (.signalLoss p l rest) s = .next (withLane s p l
        { laneAt s p l with copy := none, status := statusOf h rest false }) ∧
      exec (.copyStart p l rest) s = .next (withLane s p l
        { laneAt s p l with copy := some { header := none }, status := statusOf h rest false })) ∧
    ((laneAt s p l).copy = some { header := none } →
      let x := { laneAt s p l with status := { LaneStatus.clear with crcError := Config.shortCopyCrcError s.draws } }
      exec (.signalLoss p l rest) s = .next { s with
        links := s.links.put p (linkWith (s.port p) l { x with copy := none }), draws := s.draws + 1 } ∧
      exec (.copyStart p l rest) s = .next { s with
        links := s.links.put p (linkWith (s.port p) l { x with copy := some { header := none } })
        draws := s.draws + 1 })

/-- The commands executed one after another. -/
abbrev Sys2Proof.Claims.runs (commands : List Instr) (s : State) : Host.Outcome State Fault Refusal :=
  commands.foldl (fun o c => match o with | .next t => exec c t | .fault f => .fault f | .refused r => .refused r)
    (.next s)

/-- The link's own part of taking a copy: lane status, last taken count and lane last used (R144, R145). -/
abbrev Sys2Proof.Claims.takenState (s : State) (p : Port) (l : LaneId) (h : ArrivedHeader) (rest : List Byte) : State :=
  { s with
    links := s.links.put p
      { (linkWith (s.port p) l { laneAt s p l with copy := none, status := statusOf h rest true }) with
        lastTaken := some h.count, laneLastUsed := some l } }

/-- A copy that is taken keeps its count and its lane, and its frames then act in order as the request commands they
stand for; a single frame does so whatever stands in the operands its kind does not read (R145, R149, R154). That a
frame acts as the request command of its row is read from the table (log entry 13), and that the command's unread
operands are 0 is the model's choice (log entry 22). -/
def Obligations.ATakenCopyActsAsItsRequests : Prop :=
  ∀ (s : State) (p : Port) (l : LaneId) (h : ArrivedHeader) (requests : List Request),
    s.phase = .running → (s.port p).attach ≠ .absent → h.requests.toNat = requests.length →
    (laneAt s p l).copy = some { header := some h } →
    let rest := (requests.map frameBytes).flatten
    isTaken s p l h rest →
    ((∀ r ∈ requests, plainFrame r) →
      exec (.signalLoss p l rest) s = runs (requests.map (commandOf p)) (takenState s p l h rest)) ∧
    (∀ r, requests = [r] → ready s p →
      exec (.signalLoss p l rest) s = exec (commandOf p r) (takenState s p l h rest))

/-! ### Headers and lane states (chapter 8) -/

/-- The header checks its CRC (R141). -/
abbrev Sys2Proof.Claims.headerChecks (count requests hi lo : Byte) : Prop := crc16 [count, requests] = hi ++ lo

/-- A valid header as its copy keeps it: with a count error where the lane has a previous count and the count is not 1
ahead of it (R141). -/
abbrev Sys2Proof.Claims.validCopy (x : Lane) (count requests : Byte) : ArrivedHeader where
  count := count
  requests := requests
  valid := true
  countError := decide (x.previous ≠ none ∧ x.previous ≠ some (count - 1))

/-- The length of the miss timer: 1.5 nominal cycles (R143). -/
abbrev Sys2Proof.Claims.missLength (s : State) : Nat := if s.clock.rate = .khz48 then 49152 else 24576

/-- The lane with what every valid header writes (R142, R143). -/
abbrev Sys2Proof.Claims.heard (s : State) (x : Lane) (count requests : Byte) : Lane :=
  { x with
    copy := some { header := some (validCopy x count requests) }
    previous := some count
    missTimer := some (missLength s) }

/-- A header that fails its CRC is kept as not valid and does not act on the lane; a valid header takes a DOWN lane to
SYNCING with valid count 1, and counts a SYNCING lane on below 4. Nothing else changes (R141, R142, R143). -/
def Obligations.HeadersAreJudgedAndCountTheLaneUp : Prop :=
  ∀ (s : State) (p : Port) (l : LaneId) (count requests hi lo : Byte) (tick : Nat), s.phase = .running →
    (laneAt s p l).copy = some { header := none } →
    let x := laneAt s p l
    let failed : ArrivedHeader := { count := count, requests := requests, valid := false, countError := false }
    (¬ headerChecks count requests hi lo →
      exec (.headerArrival p l count requests hi lo tick) s = .next (withLane s p l
        { x with copy := some { header := some failed } })) ∧
    (headerChecks count requests hi lo → x.state = .down →
      exec (.headerArrival p l count requests hi lo tick) s = .next (withLane s p l
        { heard s x count requests with state := .syncing, validCount := 1 })) ∧
    (headerChecks count requests hi lo → x.state = .syncing → x.validCount < 3 →
      exec (.headerArrival p l count requests hi lo tick) s = .next (withLane s p l
        { heard s x count requests with validCount := x.validCount + 1 }))

/-- The reference lane is this lane, or would be if it were UP (R122). -/
abbrev Sys2Proof.Claims.wouldBeReference (s : State) (p : Port) (l : LaneId) : Prop :=
  (s.clock.state = .acquire p ∨ s.clock.state = .locked p ∨ s.clock.state = .holdover p) ∧
  (l = .primary ∨ (s.port p).primary.state ≠ .up)

/-- The fourth valid header of a SYNCING lane brings it UP: a port that was ABSENT or DETACHED becomes ATTACHED with its
grace timer stopped and leaves the refused set, FREE is left if a candidate now exists, and a changed reference lane
forgets the predecessor; the header itself is not measured (R122, R126, R127, R142, R146; log entry 10). -/
def Obligations.TheFourthValidHeaderBringsTheLaneUp : Prop :=
  ∀ (s : State) (p : Port) (l : LaneId) (count requests hi lo : Byte) (tick : Nat), s.phase = .running →
    (laneAt s p l).copy = some { header := none } → headerChecks count requests hi lo →
    (laneAt s p l).state = .syncing → (laneAt s p l).validCount = 3 →
    let y := { heard s (laneAt s p l) count requests with state := .up, validCount := 4, missCount := 0 }
    let x := linkWith (s.port p) l y
    let c := if wouldBeReference s p l then { s.clock with predecessor := none } else s.clock
    exec (.headerArrival p l count requests hi lo tick) s = .next
      (if (s.port p).attach = .attached then { s with links := s.links.put p x, clock := c }
      else { s with
        links := s.links.put p { x with attach := .attached, graceTimer := none }
        clock :=
          let refused := s.clock.refused.erase p
          match s.clock.state, (s.store.settings.clockList.filter fun q =>
            (q = p ∨ (s.port q).attach = .attached) ∧ q ∉ refused).head? with
          | .free, some r => acquiring { c with refused := refused } r
          | _, _ => { c with refused := refused } })

/-- A list of intervals of which only the last 8 are kept (R124). -/
abbrev Sys2Proof.Claims.last8 (l : List Int) : List Int := l.drop (l.length - 8)

/-- The mean of a list of intervals (R124). -/
abbrev Sys2Proof.Claims.mean (l : List Int) : Rat := (l.sum : Rat) / (l.length : Rat)

/-- An in-window interval steers: it joins the history, and L becomes the mean (R124). -/
abbrev Sys2Proof.Claims.steered (c : Clock) (d : Int) : Clock :=
  { c with history := last8 (c.history ++ [d]), length := mean (last8 (c.history ++ [d])) }

/-- An in-window interval in each clock state: the eighth in a row locks in ACQUIRE and relocks in HOLDOVER (R124, R129,
R132, R134). -/
abbrev Sys2Proof.Claims.afterGood (c : Clock) (d : Int) : Clock :=
  match c.state with
  | .free => c
  | .acquire r =>
    if c.inWindow + 1 < 8 then { steered c d with inWindow := c.inWindow + 1 }
    else { steered c d with state := .locked r, inWindow := c.inWindow + 1, acquireTimer := none, misses := 0 }
  | .locked _ => { steered c d with misses := 0 }
  | .holdover r =>
    if c.relockRun.length + 1 < 8 then { c with relockRun := c.relockRun ++ [d] }
    else { c with state := .locked r, holdoverTimer := none, misses := 0, relockRun := [],
                  history := c.relockRun ++ [d], length := mean (c.relockRun ++ [d]) }

/-- An out-of-window interval in each clock state: the third in a row ends LOCKED (R129, R132, R134). -/
abbrev Sys2Proof.Claims.afterBad (c : Clock) : Clock :=
  match c.state with
  | .free => c
  | .acquire _ => { c with inWindow := 0 }
  | .locked r =>
    if c.misses + 1 < 3 then { c with misses := c.misses + 1 }
    else heldOver { c with misses := c.misses + 1 } r
  | .holdover _ => { c with relockRun := [] }

/-- The nominal cycle N in ticks (R120). -/
abbrev Sys2Proof.Claims.nominalTicks (c : Clock) : Int := if c.rate = .khz48 then 32768 else 16384

/-- The clock tracker after a measured header: it becomes the predecessor, and completes an interval when its count is 1
ahead of its predecessor's (R121, R123). -/
abbrev Sys2Proof.Claims.measured (c : Clock) (window : Nat) (count : Byte) (tick : Nat) : Clock :=
  let c' := { c with predecessor := some { count := count, tick := tick } }
  match c.predecessor with
  | none => c'
  | some before =>
    if count = before.count + 1 then
      let d : Int := tick - before.tick
      if nominalTicks c - window ≤ d ∧ d ≤ nominalTicks c + window then afterGood c' d else afterBad c'
    else c'

/-- A valid header on an UP lane clears its miss count; on the reference lane, while the reference is available, it is
also measured by the clock tracker; nothing else changes (R121 to R124, R129, R132, R134, R142, R147). -/
def Obligations.AHeaderOfTheReferenceLaneIsMeasured : Prop :=
  ∀ (s : State) (p : Port) (l : LaneId) (count requests hi lo : Byte) (tick : Nat), s.phase = .running →
    (laneAt s p l).copy = some { header := none } → headerChecks count requests hi lo → (laneAt s p l).state = .up →
    let t := withLane s p l { heard s (laneAt s p l) count requests with missCount := 0 }
    exec (.headerArrival p l count requests hi lo tick) s = .next
      (if wouldBeReference s p l ∧ (s.port p).attach = .attached ∧ p ∈ s.store.settings.clockList
      then { t with clock := measured s.clock s.store.settings.window count tick }
      else t)

/-- A lane in DOWN (R142). -/
abbrev Sys2Proof.Claims.downed (x : Lane) : Lane :=
  { x with state := .down, validCount := 0, missCount := 0, previous := none, missTimer := none }

/-- A miss: a SYNCING lane goes DOWN; an UP lane counts the miss and restarts its timer; and the third miss takes it
DOWN beside another UP lane, where the reference lane may change. The port stays as it is (R122, R142, R143). -/
def Obligations.AMissCountsOrTakesTheLaneDown : Prop :=
  ∀ (s : State) (p : Port) (l : LaneId), s.phase = .running → (laneAt s p l).missTimer ≠ none →
    let x := laneAt s p l
    let other := match l with | .primary => (s.port p).secondary | .secondary => (s.port p).primary
    (x.state = .syncing → exec (.miss p l) s = .next (withLane s p l (downed x))) ∧
    (x.state = .up → x.missCount < 2 →
      exec (.miss p l) s = .next (withLane s p l
        { x with missCount := x.missCount + 1, missTimer := some (missLength s) })) ∧
    (x.state = .up → x.missCount = 2 → other.state = .up →
      exec (.miss p l) s = .next { (withLane s p l (downed x)) with
        clock := if l = .primary ∧ wouldBeReference s p l then { s.clock with predecessor := none } else s.clock })

/-- The third miss of the last UP lane of an ATTACHED port: the lane goes DOWN, the port becomes DETACHED with a grace
timer of 500 ms, and the clock tracker loses it as reference: ACQUIRE chooses again, LOCKED goes to HOLDOVER, HOLDOVER
restarts its relock count (R131, R133, R134, R142, R146). -/
def Obligations.TheLastLaneDownDetachesThePort : Prop :=
  ∀ (s : State) (p : Port) (l : LaneId), s.phase = .running → (laneAt s p l).missTimer ≠ none →
    (laneAt s p l).state = .up → (laneAt s p l).missCount = 2 → (s.port p).attach = .attached →
    (match l with | .primary => (s.port p).secondary.state | .secondary => (s.port p).primary.state) ≠ .up →
    exec (.miss p l) s = .next { s with
      links := s.links.put p
        { (linkWith (s.port p) l (downed (laneAt s p l))) with
          attach := .detached, graceTimer := some (Config.ms 500) }
      clock := match s.clock.state with
        | .free => s.clock
        | .acquire r => if r ≠ p then s.clock else acquiringOr s.clock
            (firstOf s s.clock.refused (s.store.settings.clockList.filter (· ≠ p)))
        | .locked r => if r ≠ p then s.clock else heldOver s.clock r
        | .holdover r => if r ≠ p then s.clock else { s.clock with relockRun := [], predecessor := none } }

/-- The port link after the loss of its port (R148). -/
abbrev Sys2Proof.Claims.lostLink (x : PortLink) : PortLink :=
  { x with attach := .absent, graceTimer := none, requests := [], responses := [], overrun := false, lastTaken := none }

/-- The grace expiry of a DETACHED port: it becomes ABSENT with its queues flushed (R148), every unit it holds passes to
the next waiter or is free and it waits nowhere (R45, R56, R57, R80), its draft becomes its live map with no commit
pending (R118), its watches take their power-on values (R163), and a HOLDOVER on it restarts its relock count (R134). -/
def Obligations.GraceExpiryLosesThePort : Prop :=
  ∀ (s : State) (p : Port), s.phase = .running →
    (s.port p).attach = .detached → (s.port p).graceTimer ≠ none → s.store.factoryPort ≠ some p →
    s.clock.state ≠ .acquire p → s.clock.state ≠ .locked p → holdingsOk s →
    ∃ t, exec (.graceExpiry p) s = .next t ∧
      { t with arbiter := s.arbiter, maps := s.maps, watches := s.watches, links := s.links, clock := s.clock } = s ∧
      keepsLinks s t ∧
      t.links = s.links.put p (lostLink (s.port p)) ∧
      t.maps = s.maps.put p { s.mapsOf p with draft := (s.mapsOf p).live, commitPending := false } ∧
      t.watches = s.watches.put p (.fill fun _ => Watch.reset) ∧
      t.clock = (if s.clock.state = .holdover p then { s.clock with relockRun := [], predecessor := none }
        else s.clock) ∧
      (∀ i,
        let u := if s.linked (pairOf i) then evenOf (pairOf i) else i
        let lost := (s.holding u).holder = some p
        let next := (s.holding u).queue.head?
        t.holding i =
          { holder := if lost then next else (s.holding i).holder
            queue := if lost then (s.holding i).queue.tail else (s.holding i).queue.filter (· ≠ p) } ∧
        ∀ q, t.record q i =
          if ¬ lost then s.record q i
          else if q = p then released (s.record q i) (s.input i).effective
          else if next = some q then granted (s.record q i) (s.input i).effective
          else s.record q i)

/-! ### The start of a cycle -/

/-- The part runs, no request waits and no accepted FACTORY awaits its restart: the cycle start takes no request. -/
abbrev Sys2Proof.Claims.quietStart (s : State) : Prop :=
  s.phase = .running ∧ (∀ p, (s.port p).requests = []) ∧ s.store.factoryPort = none

/-- The count of the cycle that starts (R124, R156). -/
abbrev Sys2Proof.Claims.nextCount (s : State) : Byte :=
  match s.cycleCount with
  | none => 0
  | some n => n + 1

/-- The input whose digest the cycle carries (R166). -/
abbrev Sys2Proof.Claims.reported (s : State) (i : InputNo) : Prop := i.val = (nextCount s).toNat % 32

/-- An input brought into a new cycle: its move (R2), a pad change (R3), a mode change (R5, R6), the settle (R4), the
causes of voidness (R19), the effective analog gain (R1) and phantom applied (R7). -/
abbrev Sys2Proof.Claims.started (s : State) (i : InputNo) : Preamp :=
  let x := s.input i
  let g := s.group (groupOf i)
  let live := phantomRequested g
  let actual := if x.gainActual < x.gainTarget then x.gainActual + 1
    else if x.gainTarget < x.gainActual then x.gainActual - 1 else x.gainActual
  let padChanges := decide (x.padRequested ≠ x.padInEffect)
  let modeChanges := decide (x.modeRequested ≠ x.modeInEffect)
  let settle := if padChanges || (modeChanges && !live) then 4 else x.settle
  let timer := if modeChanges && live then some (Config.ms (if x.modeRequested = .mic then 600 else 300))
    else x.modeTimer
  let mic := x.modeRequested == .mic
  { x with
    gainActual := actual
    padInEffect := x.padRequested
    modeInEffect := x.modeRequested
    settle := settle - 1
    modeTimer := timer
    causes :=
      { settle := decide (0 < settle)
        modeTimer := timer.isSome
        group := mic && (g.state == .charging || g.state == .discharging || g.faultVoidTimer.isSome)
        clock := match s.clock.state with | .acquire _ => true | _ => false }
    phantomReached := mic && live
    effective := (actual : Int) - (if x.padRequested then 20 else 0) }

/-- A cycle start brings every input into the cycle, and the changes of pad and mode in effect go to the store; groups,
reports, clock, watches and all other state of the front end stay as they are (R1 to R7, R18 to R20). -/
def Obligations.ACycleStartBringsEveryInputIn : Prop :=
  ∀ (s : State) (schedule : List Port), quietStart s →
    ∃ t, exec (.cycleStart schedule) s = .next t ∧
      { t with cycleCount := s.cycleCount, frontEnd := s.frontEnd, arbiter := s.arbiter, level := s.level,
               maps := s.maps, links := s.links, store := s.store } = s ∧
      t.cycleCount = some (nextCount s) ∧
      { t.frontEnd with inputs := s.frontEnd.inputs, ovl := s.frontEnd.ovl } = s.frontEnd ∧
      (∀ i, t.input i = started s i) ∧
      t.store =
        (if ∃ i, (s.input i).padRequested ≠ (s.input i).padInEffect ∨
            (s.input i).modeRequested ≠ (s.input i).modeInEffect then
          noted s.store { s.store.frontEnd with
            pads := .fill fun i => if (s.input i).padRequested = (s.input i).padInEffect
              then s.store.frontEnd.pads.pick i else (s.input i).padRequested
            modes := .fill fun i => if (s.input i).modeRequested = (s.input i).modeInEffect
              then s.store.frontEnd.modes.pick i else (s.input i).modeRequested }
        else s.store)

/-- The map that is live in the cycle that starts (R84, R111). -/
abbrev Sys2Proof.Claims.comingMap (s : State) (p : Port) : SlotMap :=
  if (s.mapsOf p).commitPending then (s.mapsOf p).draft else (s.mapsOf p).live

/-- The product of a sample with the coefficient of a record: 0 while muted (R86, R88). -/
abbrev Sys2Proof.Claims.productOf (r : CompRecord) (x : Sample) : Int :=
  x.toInt * (if r.mute then 0 else coefficient r.applied)

/-- The causes name a void cycle (R19). -/
abbrev Sys2Proof.Claims.isVoid (c : VoidCauses) : Bool := c.settle || c.modeTimer || c.group || c.clock

/-- The audio of the last completed cycle saturates in a slot that a map gives the input: the cycle was not void, and a
sample's product, at the gain and mute handed over, saturates in the slot's format and the cycle's rounding mode (R91,
R97). -/
abbrev Sys2Proof.Claims.saturatedBy (s : State) (p : Port) (map : SlotMap) (i : InputNo) : Bool :=
  !isVoid (s.frontEnd.reports.pick i).causes &&
  (List.finRange 32).any fun k =>
    match map.pick k with
    | none => false
    | some e => e.input == i && (List.finRange 64).any fun n =>
        saturates e.format (s.level.rounding.pick p)
          (productOf ((s.arbiter.handed.pick p).pick i) ((s.level.samples.pick i).pick n))

/-- The CLIP sticky of a port and input as the digest of the cycle that starts reads it: after a cycle end, the sticky
before it, or the last cycle's audio saturating by the map of the starting cycle (R84, R97, R115). -/
abbrev Sys2Proof.Claims.clipStands (s : State) (p : Port) (i : InputNo) : Bool :=
  match s.level.clipBefore with
  | none => (s.level.clip.pick p).pick i
  | some before => (before.pick p).pick i || saturatedBy s p (comingMap s p) i

/-- A cycle start brings every record into the cycle, the holder's anchor following E_n (R52); the rounding modes
requested take effect (R93); pending commits go live (R111); and the three stickies of the reported input are cleared
for every port, others staying as they are but for CLIP, which first follows the map now live (R23, R97, R99, R115; log
entry 14). -/
def Obligations.ACycleStartBringsRecordsAndMapsIn : Prop :=
  ∀ (s : State) (schedule : List Port), quietStart s →
    ∃ t, exec (.cycleStart schedule) s = .next t ∧
      { t.arbiter with records := s.arbiter.records } = s.arbiter ∧
      (∀ q i, t.record q i =
        if isHolder s q i then asHolder { s.record q i with anchor := (started s i).effective }
        else asNonHolder (s.record q i) (started s i).effective) ∧
      { t.level with inEffect := s.level.inEffect, clip := s.level.clip, void := s.level.void,
                     clipBefore := s.level.clipBefore } = s.level ∧
      t.level.inEffect = s.level.requested ∧ t.level.clipBefore = none ∧
      (∀ p i,
        (t.level.clip.pick p).pick i = (clipStands s p i && decide (¬ reported s i)) ∧
        (t.level.void.pick p).pick i = ((s.level.void.pick p).pick i && decide (¬ reported s i)) ∧
        (t.frontEnd.ovl.pick p).pick i = ((s.frontEnd.ovl.pick p).pick i && decide (¬ reported s i))) ∧
      (∀ p, t.mapsOf p =
        if (s.mapsOf p).commitPending then
          { live := (s.mapsOf p).draft, draft := (s.mapsOf p).draft, generation := (s.mapsOf p).generation + 1,
            commitPending := false }
        else s.mapsOf p)

/-- The unit an input belongs to (R25). -/
abbrev Sys2Proof.Claims.unit (s : State) (i : InputNo) : InputNo :=
  if s.linked (pairOf i) then evenOf (pairOf i) else i

/-- The header of a port's downlink at a cycle start that takes no request (R47, R48, R160, R161, R164, R165). -/
abbrev Sys2Proof.Claims.headerOf (s : State) (dirty : Bool) (p : Port) : Header where
  cycleCount := nextCount s
  rate := s.clock.rate
  clock := s.clock.state
  setup := decide (s.store.position = .setup)
  storeDirty := dirty
  overrun := (s.port p).overrun
  commitPending := false
  primaryState := (s.port p).primary.state
  primaryStatus := (s.port p).primary.status
  secondaryState := (s.port p).secondary.state
  secondaryStatus := (s.port p).secondary.status
  laneLastUsed := (s.port p).laneLastUsed
  generation := if (s.mapsOf p).commitPending then (s.mapsOf p).generation + 1 else (s.mapsOf p).generation
  holdings := .fill fun i => decide (isHolder s p i)
  waiting := .fill fun i => decide (p ∈ (s.holding (unit s i)).queue)
  watchWord := .fill fun w =>
    let x := s.watch p w
    (x.mask.less || x.mask.equal || x.mask.greater || x.mask.void) && (if x.latch then x.latched else x.condition)
  faultWord := .fill fun w => (s.watch p w).fault
  groupStates := .fill fun g => (s.group g).state
  groupSenses := .fill fun g => (s.group g).sense
  responseCount := min 4 (s.port p).responses.length

/-- The digest of an input for a port: holding as it stands, the front end's and the port's own values as handed over at
the end of the last cycle, and the stickies before they are cleared (R49, R67, R97, R99, R166, R167). -/
abbrev Sys2Proof.Claims.digestOf (s : State) (p : Port) (i : InputNo) : Digest where
  input := i
  holder := (s.holding (unit s i)).holder
  queue := (s.holding (unit s i)).queue
  linked := s.linked (pairOf i)
  gainTarget := (s.input i).gainTarget
  report := s.frontEnd.reports.pick i
  record := (s.arbiter.handed.pick p).pick i
  clip := clipStands s p i
  void := (s.level.void.pick p).pick i
  ovl := (s.frontEnd.ovl.pick p).pick i

/-! The layouts of the downlink, byte by byte, as the tables of R152, R153, 8.8.3 and 8.8.4 give them. -/

/-- A field of one byte. -/
abbrev Sys2Proof.Claims.u8 (n : Nat) : Byte := BitVec.ofNat 8 n

/-- A signed or unsigned field of `n` bytes, most significant byte first, two's complement (R153). -/
abbrev Sys2Proof.Claims.field (n : Nat) (v : Int) : List Byte :=
  (List.range n).map fun k => BitVec.ofInt 8 (v / 256 ^ (n - 1 - k))

/-- A byte with the named bits, bit 0 first. -/
abbrev Sys2Proof.Claims.bitsByte (l : List Bool) : Byte := u8 (l.foldr (fun b n => 2 * n + b.toNat) 0)

/-- A mask of the 32 inputs: four bytes, bit i for input i (R153). -/
abbrev Sys2Proof.Claims.maskBytes (v : Vector Bool 32) : List Byte :=
  [24, 16, 8, 0].map fun low => bitsByte ((List.range 8).map fun k => v.pick (Fin.ofNat 32 (low + k)))

/-- A one-byte port field: the port, or 0xFF for none (R153). -/
abbrev Sys2Proof.Claims.portField : Option Port → Byte
  | some q => u8 q.val
  | none => 0xFF

/-- The CRC of a block, two bytes (R140). -/
abbrev Sys2Proof.Claims.withTheCrc (body : List Byte) : List Byte := body ++ field 2 ((crc16 body).toNat : Nat)

/-- The lane status byte: lane state in bits 1 to 0, then the five indications. -/
abbrev Sys2Proof.Claims.laneField (x : LaneState) (r : LaneStatus) : Byte :=
  bitsByte [x == .syncing, x == .up, r.headerValid, r.crcError, r.lengthError, r.countError, r.copyTaken]

/-- The 28 bytes of the downlink header (8.8.4). -/
abbrev Sys2Proof.Claims.headerLayout (h : Header) : List Byte :=
  [ h.cycleCount,
    match h.rate with | .khz48 => 0 | .khz96 => 1,
    match h.clock with | .free => 0 | .acquire _ => 1 | .locked _ => 2 | .holdover _ => 3,
    match h.clock with | .free => 0xFF | .acquire r => u8 r.val | .locked r => u8 r.val | .holdover r => u8 r.val,
    bitsByte [h.setup, h.storeDirty, h.overrun, h.commitPending],
    laneField h.primaryState h.primaryStatus,
    laneField h.secondaryState h.secondaryStatus,
    match h.laneLastUsed with | some .primary => 0 | some .secondary => 1 | none => 0xFF,
    h.generation ]
  ++ maskBytes h.holdings ++ maskBytes h.waiting ++ [bitsByte h.watchWord.toList, bitsByte h.faultWord.toList]
  ++ ((List.finRange 8).map fun g =>
    u8 ((match h.groupStates.pick g with | .off => 0 | .charging => 1 | .on => 2 | .discharging => 3 | .fault => 4)
      + (match h.groupSenses.pick g with | .ok => 128 | .low => 0)))
  ++ [u8 h.responseCount]

/-- The 18 bytes of the input digest (8.8.4). -/
abbrev Sys2Proof.Claims.digestLayout (d : Digest) : List Byte :=
  [ u8 d.input.val, portField d.holder, portField d.queue[0]?, portField d.queue[1]?, portField d.queue[2]?,
    u8 d.gainTarget, u8 d.report.gainActual,
    bitsByte [d.linked, d.report.padInEffect, d.report.modeInEffect == .line, d.report.phantomApplied,
      isVoid d.report.causes],
    bitsByte [d.report.causes.settle, d.report.causes.modeTimer, d.report.causes.group, d.report.causes.clock] ]
  ++ field 3 (match d.report.lastPeak with | some peak => (peak : Int) | none => 0xFFFFFF)
  ++ field 2 d.record.trim ++ field 1 d.record.anchor ++ field 2 d.record.applied
  ++ [bitsByte [d.record.mute, d.record.compLimited, d.clip, d.void, d.ovl]]

/-- A value of an audio block: 2, 3 or 4 bytes (R153). -/
abbrev Sys2Proof.Claims.valueLayout : SlotValue → List Byte
  | .fix16 v => field 2 v
  | .fix24 v => field 3 v
  | .flt32 bits => field 4 (bits.toNat : Nat)

/-- The code of an outcome (8.8.3). -/
abbrev Sys2Proof.Claims.outcomeLayout : OutcomeCode → Byte
  | .done => 0
  | .clamped => 1
  | .queued => 2
  | .already => 3
  | .notHolder => 4
  | .contested => 5
  | .linkedOdd => 6
  | .badTarget => 7
  | .badValue => 8
  | .pending => 9
  | .bandwidth => 10
  | .setupOnly => 11
  | .unknown => 12

/-- The 8 bytes of a response frame (8.8.3). -/
abbrev Sys2Proof.Claims.responseLayout (r : Response) : List Byte :=
  withTheCrc ([r.kind, r.target, outcomeLayout r.outcome, u8 r.position] ++ field 2 r.value)

/-- The bytes of a downlink copy (R152): header and digest with their CRC, each audio block with its CRC, and the
responses. -/
abbrev Sys2Proof.Claims.copyLayout (c : DownlinkCopy) : List Byte :=
  withTheCrc (headerLayout c.header ++ digestLayout c.digest)
  ++ (c.blocks.map fun b => withTheCrc (b.map valueLayout).flatten).flatten
  ++ (c.responses.map responseLayout).flatten

/-- At a cycle start every port's downlink copy is formed and the same bytes are sent on both lanes, in every lane and
attach state: its header, the digest of the input whose number is the count modulo 32, and the up to four oldest
responses, which leave; the overrun flag clears (R149, R151, R152, R164 to R167). The bytes of every copy are those of
the layouts of 8.8.3 and 8.8.4, field by field (R153). -/
def Obligations.TheDownlinkReportsTheState : Prop :=
  ∀ (s : State) (schedule : List Port), quietStart s →
    ∃ t, exec (.cycleStart schedule) s = .next t ∧ ∀ p, ∃ c, t.port p = { s.port p with
        responses := (s.port p).responses.drop 4
        overrun := false
        downlink := some c
        primary := { (s.port p).primary with sent := c.bytes }
        secondary := { (s.port p).secondary with sent := c.bytes } } ∧
      c.header = headerOf s t.store.dirty p ∧
      (∀ i, reported s i → c.digest = digestOf s p i) ∧
      c.responses = (s.port p).responses.take 4 ∧
      c.bytes = copyLayout c

/-- The bytes of a slot in a format (R89). -/
abbrev Sys2Proof.Claims.bytesPerSlot : Format → Nat
  | .fix16 => 128
  | .fix24 => 192
  | .flt32 => 256

/-- The value of a void input's slot (R95). -/
abbrev Sys2Proof.Claims.silence : Format → SlotValue
  | .fix16 => .fix16 0
  | .fix24 => .fix24 0
  | .flt32 => .flt32 0

/-- The audio segment of a downlink: for each non-empty slot of the live map, in slot order, 64 values, each the
conversion of the sample's product in the slot's format and the port's rounding mode, or silence for a void cycle; and
the copy's length in bytes (R84, R88, R95, R100, R104, R113, R152). -/
def Obligations.TheAudioSegmentFollowsTheLiveMap : Prop :=
  ∀ (s : State) (schedule : List Port), quietStart s →
    ∃ t, exec (.cycleStart schedule) s = .next t ∧ ∀ p, ∃ c, (t.port p).downlink = some c ∧
      c.blocks = ((List.finRange 32).filterMap fun k => (comingMap s p).pick k).map (fun e =>
        (List.finRange 64).map fun n =>
          if isVoid (s.frontEnd.reports.pick e.input).causes then silence e.format
          else slotValue e.format (s.level.rounding.pick p)
            (productOf ((s.arbiter.handed.pick p).pick e.input) ((s.level.samples.pick e.input).pick n))) ∧
      c.bytes.length = 48 + (((List.finRange 32).filterMap fun k => (comingMap s p).pick k).map (fun e =>
        bytesPerSlot e.format + 2)).sum + 8 * min 4 (s.port p).responses.length

/-- How many of a port's waiting requests are taken at a cycle start: as many as find a free place in the response queue
once the up to four oldest responses have left (R150, R151). -/
abbrev Sys2Proof.Claims.takenCount (x : PortLink) : Nat := min x.requests.length (8 - (x.responses.length - 4))

/-- The commands of the requests taken at a cycle start, in order: one of a port for each of its places in the schedule,
and then what is left, port by port in ascending order; each port's own oldest first (R150; the order among ports is log
entry 7). -/
def Sys2Proof.Claims.inOrder : List Port → (Port → List Request) → List Instr
  | [], left => (List.finRange 4).flatMap fun p => (left p).map (commandOf p)
  | p :: rest, left =>
    match left p with
    | [] => inOrder rest left
    | r :: later => commandOf p r :: inOrder rest fun q => if q = p then later else left q

/-- The state that the requests taken at a cycle start find: every block has brought its state into the cycle (as
`ACycleStartBringsEveryInputIn` and `ACycleStartBringsRecordsAndMapsIn` say it) and the responses have left (R1, R52, R93,
R111, R151, R152). The waiting requests are put aside, so that each can arrive as its command. -/
abbrev Sys2Proof.Claims.broughtIn (s : State) : State :=
  { s with
    cycleCount := some (nextCount s)
    frontEnd := { s.frontEnd with inputs := .fill (started s) }
    arbiter := { s.arbiter with
      records := .fill fun q => .fill fun i =>
        if isHolder s q i then asHolder { s.record q i with anchor := (started s i).effective }
        else asNonHolder (s.record q i) (started s i).effective }
    level := { s.level with
      inEffect := s.level.requested, clip := .fill fun p => .fill (clipStands s p), clipBefore := none }
    maps := .fill fun p =>
      if (s.mapsOf p).commitPending then
        { s.mapsOf p with
          live := (s.mapsOf p).draft, generation := (s.mapsOf p).generation + 1, commitPending := false }
      else s.mapsOf p
    store :=
      if ∃ i, (s.input i).padRequested ≠ (s.input i).padInEffect ∨ (s.input i).modeRequested ≠ (s.input i).modeInEffect
      then noted s.store { s.store.frontEnd with
        pads := .fill fun i => if (s.input i).padRequested = (s.input i).padInEffect
          then s.store.frontEnd.pads.pick i else (s.input i).padRequested
        modes := .fill fun i => if (s.input i).modeRequested = (s.input i).modeInEffect
          then s.store.frontEnd.modes.pick i else (s.input i).modeRequested }
      else s.store
    links := .fill fun p => { s.port p with requests := [], responses := (s.port p).responses.drop 4 } }

/-- The downlink copy of a port with the responses that leave in it, formed from the state that the requests taken have
left: header, digest of the reported input, and the blocks of the live map (R84, R152, R164 to R167). -/
abbrev Sys2Proof.Claims.copyFrom (v : State) (count : Byte) (p : Port) (leaving : List Response) : DownlinkCopy where
  header :=
    { cycleCount := count
      rate := v.clock.rate
      clock := v.clock.state
      setup := decide (v.store.position = .setup)
      storeDirty := v.store.dirty
      overrun := (v.port p).overrun
      commitPending := (v.mapsOf p).commitPending
      primaryState := (v.port p).primary.state
      primaryStatus := (v.port p).primary.status
      secondaryState := (v.port p).secondary.state
      secondaryStatus := (v.port p).secondary.status
      laneLastUsed := (v.port p).laneLastUsed
      generation := (v.mapsOf p).generation
      holdings := .fill fun i => decide (isHolder v p i)
      waiting := .fill fun i => decide (p ∈ (v.holding (unit v i)).queue)
      watchWord := .fill fun w =>
        let x := v.watch p w
        (x.mask.less || x.mask.equal || x.mask.greater || x.mask.void) && (if x.latch then x.latched else x.condition)
      faultWord := .fill fun w => (v.watch p w).fault
      groupStates := .fill fun g => (v.group g).state
      groupSenses := .fill fun g => (v.group g).sense
      responseCount := leaving.length }
  digest := digestOf v p (Fin.ofNat 32 count.toNat)
  blocks := ((List.finRange 32).filterMap fun k => (v.mapsOf p).live.pick k).map fun e =>
    (List.finRange 64).map fun n =>
      if isVoid (v.frontEnd.reports.pick e.input).causes then silence e.format
      else slotValue e.format (v.level.rounding.pick p)
        (productOf ((v.arbiter.handed.pick p).pick e.input) ((v.level.samples.pick e.input).pick n))
  responses := leaving

/-- The state once every downlink is sent: each port's requests that were not taken are left in its queue, its copy is
formed and sent on both lanes, and the stickies of the reported input are cleared (R23, R99, R149, R152). -/
abbrev Sys2Proof.Claims.sentFrom (s v : State) : State :=
  let copy := fun p => copyFrom v (nextCount s) p ((s.port p).responses.take 4)
  { v with
    frontEnd := { v.frontEnd with
      ovl := .fill fun p => .fill fun i => (v.frontEnd.ovl.pick p).pick i && decide (¬ reported s i) }
    level := { v.level with
      clip := .fill fun p => .fill fun i => (v.level.clip.pick p).pick i && decide (¬ reported s i)
      void := .fill fun p => .fill fun i => (v.level.void.pick p).pick i && decide (¬ reported s i) }
    links := .fill fun p => { v.port p with
      requests := (s.port p).requests.drop (takenCount (s.port p))
      overrun := false
      downlink := some (copy p)
      primary := { (v.port p).primary with sent := (copy p).bytes }
      secondary := { (v.port p).secondary with sent := (copy p).bytes } } }

/-- The defaults of the settings record (10.2). -/
abbrev Sys2Proof.Claims.defaultSettings : Settings :=
  { rate := .khz48, clockList := [0, 1, 2, 3], window := 4, senior := none }

/-- The defaults of the front-end record (R170). -/
abbrev Sys2Proof.Claims.defaultFrontEnd : StoredFrontEnd where
  steps := .fill fun _ => 20
  pads := .fill fun _ => false
  modes := .fill fun _ => .mic
  phantom := .fill fun _ => false
  linked := .fill fun _ => false

/-- The state at the beginning of the restart after FACTORY: both records take their defaults, to be written, where no
write is in flight; otherwise the part waits for it. Nothing else changes (R170). -/
abbrev Sys2Proof.Claims.restarted (s : State) : State :=
  if s.store.settingsWrite = none ∧ s.store.frontEndWrite = none then
    { s with
      phase := .restartSettings
      store := { s.store with settings := defaultSettings, frontEnd := defaultFrontEnd } }
  else { s with phase := .restartWaits }

/-- The accepted FACTORY's response is among those that leave at the cycle start, when the requests taken have left `v`
(R170; log entry 24). -/
abbrev Sys2Proof.Claims.factoryLeft (s v : State) : Prop :=
  ∃ p, v.store.factoryPort = some p ∧ ∃ r ∈ (s.port p).responses.take 4, r.kind = 16 ∧ r.outcome = .done

/-- At a cycle start the up to four oldest responses leave in the control window, waiting requests are taken in the
places freed, oldest first, and each one taken appends one response that echoes its kind and target; whatever the
schedule (R150, R151, R155). The requests taken act as their commands, executed one after another on the state that the
blocks and the leaving responses have left, each on the state the requests before it left, in the order of the schedule
and then of the ports (log entry 7); the downlinks report the state they leave, their effects among it, and the restart
begins where the accepted FACTORY's response has left (R150, R152, R154, R170; log entry 24). That a request acts as the
command of its row is log entry 13, and that CLIP is settled in this event log entry 14. No request of an ABSENT port
waits (R148). -/
def Obligations.ResponsesLeaveAndRequestsAreTaken : Prop :=
  ∀ (s : State) (schedule : List Port), s.phase = .running →
    ∃ t, exec (.cycleStart schedule) s = .next t ∧
      (∀ p,
        let old := s.port p
        let taken := min old.requests.length (8 - (old.responses.length - 4))
        (t.port p).requests = old.requests.drop taken ∧
        (∃ new, (t.port p).responses = old.responses.drop 4 ++ new ∧
          new.map (fun r => (r.kind, r.target)) = (old.requests.take taken).map fun r => (r.kind, r.target)) ∧
        ∃ c, (t.port p).downlink = some c ∧ c.responses = old.responses.take 4 ∧
          c.header.responseCount = min 4 old.responses.length) ∧
      ((∀ p, (s.port p).attach = .absent → (s.port p).requests = []) →
        ∃ v, runs (inOrder schedule fun p => (s.port p).requests.take (takenCount (s.port p))) (broughtIn s) = .next v ∧
          (factoryLeft s v → t = restarted (sentFrom s v)) ∧
          (¬ factoryLeft s v → t = sentFrom s v))

/-! ### The level engine's conversions (chapter 5) -/

/-- `n` is the quotient of `p` and `d` rounded by the mode (R90). -/
abbrev Sys2Proof.Claims.roundsTo (m : Rounding) (p d n : Int) : Prop :=
  match m with
  | .nearest => 2 * |p - d * n| ≤ d ∧ (2 * |p - d * n| = d → n % 2 = 0)
  | .towardZero => |d * n| ≤ |p| ∧ |p - d * n| < d ∧ 0 ≤ p * n
  | .floor => d * n ≤ p ∧ p < d * (n + 1)

/-- FIX16 and FIX24: the quotient by 2^28 or 2^20 is rounded by the port's mode and saturated to the format's range, and
the value counts as saturated exactly when the rounded quotient lay outside it (R89, R90, R91). -/
def Obligations.FixValuesAreRoundedAndSaturated : Prop :=
  ∀ (m : Rounding) (p : Int),
    (∃ n, roundsTo m p (2 ^ 28) n ∧ slotValue .fix16 m p = .fix16 (max (-32768) (min 32767 n)) ∧
      (saturates .fix16 m p = true ↔ n < -32768 ∨ 32767 < n)) ∧
    (∃ n, roundsTo m p (2 ^ 20) n ∧ slotValue .fix24 m p = .fix24 (max (-8388608) (min 8388607 n)) ∧
      (saturates .fix24 m p = true ↔ n < -8388608 ∨ 8388607 < n))

/-- FLT32: a product other than 0 becomes a normal number whose sign is the product's and than which no representable
number lies nearer to the product divided by 2^43, a tie going to the even significand; a product of 0 becomes +0.0, and
nothing saturates (R92, R153). Magnitudes are compared scaled by 2^66: the significand times 2 to the exponent less
84, and the product times 2^23. -/
def Obligations.Flt32ValuesAreNearest : Prop :=
  ∀ (m : Rounding) (p : Int), |p| ≤ 8388608 * 16618810 →
    slotValue .flt32 m 0 = .flt32 0 ∧ saturates .flt32 m p = false ∧
    (p ≠ 0 → ∃ bits : BitVec 32, slotValue .flt32 m p = .flt32 bits ∧
      (bits.msb = true ↔ p < 0) ∧
      let exponent : Nat := bits.toNat / 2 ^ 23 % 256
      let significand : Nat := 2 ^ 23 + bits.toNat % 2 ^ 23
      84 ≤ exponent ∧ exponent ≤ 254 ∧
      let x : Int := |p| * 2 ^ 23
      let v : Int := (significand : Int) * 2 ^ (exponent - 84)
      ∀ e g : Nat, 2 ^ 23 ≤ g → g < 2 ^ 24 →
        let w : Int := (g : Int) * 2 ^ e
        |x - v| ≤ |x - w| ∧ (|x - v| = |x - w| → w ≠ v → significand % 2 = 0))

/-- Every entry of the coefficient table is 2^20 x 10^(g/80) rounded to the nearest integer, a half up: raised to the
80th power, with k = g + 160, the bounds (2C - 1) and (2C + 1) enclose it; and the entries increase with g (R85). -/
def Obligations.CoefficientsFollowTheTableLaw : Prop :=
  ∀ k : Nat, k ≤ 256 →
    let c := coefficient ((k : Int) - 160)
    (2 * c - 1) ^ 80 * 10 ^ 160 ≤ 2 ^ 1680 * 10 ^ k ∧ 2 ^ 1680 * 10 ^ k < (2 * c + 1) ^ 80 * 10 ^ 160 ∧
    (k < 256 → c < coefficient ((k : Int) - 159))

/-! ### The end of a cycle -/

/-- At a cycle end the front end finds peak and overload of every input, none in a void cycle, sets the OVL stickies and
hands the cycle over; the records are handed over as they stand; and the level engine takes samples and rounding modes
and sets the VOID and CLIP stickies, CLIP by the map that goes live next as the state stands (R21 to R23, R54, R84, R97,
R98, R166); the CLIP stickies before it are kept until the cycle start, which goes by the map then live (log entry 14).
That it acts also where no cycle has started since the last cycle end is log entry 26. -/
def Obligations.ACycleEndFindsPeaksAndSetsStickies : Prop :=
  ∀ (s : State) (samples : CycleSamples), s.phase = .running →
    ∃ t, exec (.cycleEnd samples) s = .next t ∧
      { t with frontEnd := s.frontEnd, arbiter := s.arbiter, level := s.level, watches := s.watches } = s ∧
      t.frontEnd.groups = s.frontEnd.groups ∧
      t.arbiter = { s.arbiter with handed := s.arbiter.records } ∧
      { t.level with clip := s.level.clip, void := s.level.void } =
        { s.level with samples := samples, rounding := s.level.inEffect, clipBefore := some s.level.clip } ∧
      ∀ i,
        let void := isVoid (s.input i).causes
        { t.input i with lastPeak := (s.input i).lastPeak, overload := (s.input i).overload } = s.input i ∧
        (void = true → (t.input i).lastPeak = none ∧ (t.input i).overload = false) ∧
        (void = false →
          (∃ k, (t.input i).lastPeak = some (((samples.pick i).pick k).toInt.natAbs) ∧
            ∀ n, ((samples.pick i).pick n).toInt.natAbs ≤ ((samples.pick i).pick k).toInt.natAbs) ∧
          ((t.input i).overload = true ↔
            ∃ k, ((samples.pick i).pick k).toInt = 8388607 ∨ ((samples.pick i).pick k).toInt = -8388608)) ∧
        t.frontEnd.reports.pick i =
          { gainActual := (s.input i).gainActual, padInEffect := (s.input i).padInEffect,
            modeInEffect := (s.input i).modeInEffect, phantomApplied := (s.input i).phantomReached,
            causes := (s.input i).causes, lastPeak := (t.input i).lastPeak } ∧
        ∀ p,
          (t.frontEnd.ovl.pick p).pick i = ((s.frontEnd.ovl.pick p).pick i || (t.input i).overload) ∧
          (t.level.void.pick p).pick i = ((s.level.void.pick p).pick i || void) ∧
          ((t.level.clip.pick p).pick i = true ↔ (s.level.clip.pick p).pick i = true ∨
            void = false ∧ ∃ k f n, (comingMap s p).pick k = some { input := i, format := f } ∧
              saturates f (s.level.inEffect.pick p)
                (productOf (s.record p i) ((samples.pick i).pick n)) = true)

/-- The relation of a peak to a watch's threshold level is in the mask (R159, R160). -/
abbrev Sys2Proof.Claims.relationHolds (x : Watch) : Option Nat → Bool
  | none => x.mask.void
  | some peak =>
    (decide (peak < x.level) && x.mask.less) || (decide (peak = x.level) && x.mask.equal) ||
      (decide (x.level < peak) && x.mask.greater)

/-- At a cycle end every enabled watch of every port is evaluated on the peak just found: its condition is whether the
relation is in its mask, a latching watch latches it, and VOID sets the fault bit of a strict watch; a disabled watch
stays as it is, and so does everything else of a watch (R157, R159, R160, R161). -/
def Obligations.ACycleEndEvaluatesEveryWatch : Prop :=
  ∀ (s : State) (samples : CycleSamples), s.phase = .running →
    ∃ t, exec (.cycleEnd samples) s = .next t ∧ ∀ p w,
      let x := s.watch p w
      let peak := (t.input x.input).lastPeak
      t.watch p w =
        if x.mask.less || x.mask.equal || x.mask.greater || x.mask.void then
          { x with
            condition := relationHolds x peak
            latched := x.latched || (x.latch && relationHolds x peak)
            fault := x.fault || (x.strict && decide (peak = none)) }
        else x

/-! ### The timers of the front end (chapter 1) -/

/-- A group in FAULT, just entered: its supply is cut and its fault-void timer runs (R11). -/
abbrev Sys2Proof.Claims.faulted (x : PhantomGroup) : PhantomGroup :=
  { x with state := .fault, chargeTimer := none, lowSenseTimer := none, faultVoidTimer := some (Config.ms 300) }

/-- The front end's timers and the sense level: the mode timer and the fault-void timer stop and nothing else happens;
CHARGING ends in ON or FAULT by the sense level, DISCHARGING in OFF, and ON in FAULT after 100 ms of LOW; a change of
the sense level acts on the low-sense timer in ON only (R6 to R12, R18). That a group's MIC inputs are noted as reached by
phantom when it enters ON within a cycle is read from R7 (log entry 12). -/
def Obligations.FrontEndTimersAndSense : Prop :=
  ∀ (s : State) (i : InputNo) (g : GroupNo) (level : Sense), s.phase = .running →
    let x := s.group g
    let becomes := fun (c : Instr) (y : PhantomGroup) => ∃ t, exec c s = .next t ∧
      { t with frontEnd := s.frontEnd, store := s.store } = s ∧ groupBecomes s t g y
    exec (.modeTimerExpiry i) s = .next { s with frontEnd := { s.frontEnd with
      inputs := s.frontEnd.inputs.put i { s.input i with modeTimer := none } } } ∧
    exec (.faultVoidTimerExpiry g) s = .next { s with frontEnd := { s.frontEnd with
      groups := s.frontEnd.groups.put g { x with faultVoidTimer := none } } } ∧
    (x.state = .charging → x.chargeTimer ≠ none → x.sense = .ok →
      becomes (.chargeTimerExpiry g) { x with state := .on, chargeTimer := none, lowSenseTimer := none }) ∧
    (x.state = .charging → x.chargeTimer ≠ none → x.sense = .low → becomes (.chargeTimerExpiry g) (faulted x)) ∧
    (x.state = .discharging → x.dischargeTimer ≠ none →
      becomes (.dischargeTimerExpiry g) { x with state := .off, dischargeTimer := none }) ∧
    (x.state = .on → x.lowSenseTimer ≠ none → becomes (.lowSenseTimerExpiry g) (faulted x)) ∧
    (x.sense ≠ level → exec (.senseChange g level) s = .next { s with frontEnd := { s.frontEnd with
      groups := s.frontEnd.groups.put g { x with
        sense := level
        lowSenseTimer := if x.state ≠ .on then x.lowSenseTimer
          else if level = .low then some (Config.ms 100) else none } } }) ∧
    (x.sense = level → exec (.senseChange g level) s = .next s)

/-! ### The timers of the clock tracker (chapter 7) -/

/-- The acquire timer refuses the reference and the clock tracker acquires on the first candidate or goes FREE (R130);
the holdover timer makes it acquire on the first candidate other than the reference, on the reference where it is the
only one, or go FREE (R135). Nothing but the clock changes. -/
def Obligations.AcquireAndHoldoverExpire : Prop :=
  ∀ (s : State) (r : Port), s.phase = .running →
    let list := s.store.settings.clockList
    (s.clock.state = .acquire r →
      let refused := if r ∈ s.clock.refused then s.clock.refused else s.clock.refused ++ [r]
      exec .acquireTimerExpiry s = .next { s with
        clock := acquiringOr { s.clock with refused := refused } (firstOf s refused list) }) ∧
    (s.clock.state = .holdover r →
      exec .holdoverTimerExpiry s = .next { s with
        clock := match firstOf s s.clock.refused (list.filter (· ≠ r)) with
          | some q => acquiring s.clock q
          | none => acquiringOr s.clock (firstOf s s.clock.refused list) })

/-! ### The settings store (chapter 10) -/

/-- The deferred write: the quiet timer or the ceiling timer begins it while no write runs, stopping both timers and
taking the working copy; its completion makes that copy the last completed one and clears the dirty flag unless a change
arrived; the write of the settings record completes beside it and is followed by another for a further change
(R169, R171, R172). That an expiry of the quiet or ceiling timer while a write runs changes nothing is the model's choice
(log entry 9): it cannot occur. -/
def Obligations.WritesBeginAndComplete : Prop :=
  ∀ (s : State), s.phase = .running →
    let st := s.store
    let begun := { st with
      quietTimer := none, ceilingTimer := none, frontEndWrite := some { record := st.frontEnd, changed := false } }
    (st.frontEndWrite = none → st.quietTimer ≠ none → exec .quietTimerExpiry s = .next { s with store := begun }) ∧
    (st.frontEndWrite = none → st.ceilingTimer ≠ none →
      exec .ceilingTimerExpiry s = .next { s with store := begun }) ∧
    (st.frontEndWrite ≠ none →
      exec .quietTimerExpiry s = .next s ∧ exec .ceilingTimerExpiry s = .next s) ∧
    (∀ w, st.frontEndWrite = some w → exec .frontEndWriteComplete s = .next { s with store := { st with
      frontEndCopy := { record := w.record, sound := true }, frontEndWrite := none, dirty := w.changed } }) ∧
    (∀ w, st.settingsWrite = some w → exec .settingsWriteComplete s = .next { s with store := { st with
      settingsCopy := { record := w.record, sound := true }
      settingsWrite := if w.again then some { record := st.settings, again := false } else none } })

/-- The stored values of an input, with the odd member of a pair stored as linked taking the even member's (R83). -/
abbrev Sys2Proof.Claims.storedOf (r : StoredFrontEnd) (i : InputNo) : InputNo :=
  if r.linked.pick (pairOf i) then evenOf (pairOf i) else i

/-- The state `t` has the start values from the loaded records `x` and `r` (R24, R50, R69, R83, R93, R102, R119, R139,
R156, R163, R173); the sense levels are those measured (R12). -/
abbrev Sys2Proof.Claims.startsFrom (s t : State) (x : Settings) (r : StoredFrontEnd) : Prop :=
  t.pending = s.pending ∧ t.phase = .running ∧ t.cycleCount = none ∧
  (∀ i,
    let step := r.steps.pick (storedOf r i)
    let pad := r.pads.pick (storedOf r i)
    let mode := r.modes.pick (storedOf r i)
    let e : Int := (step : Int) - (if pad then 20 else 0)
    (t.input i).gainTarget = step ∧ (t.input i).gainActual = step ∧
    (t.input i).padRequested = pad ∧ (t.input i).padInEffect = pad ∧
    (t.input i).modeRequested = mode ∧ (t.input i).modeInEffect = mode ∧
    (t.input i).settle = 0 ∧ (t.input i).modeTimer = none ∧ (t.input i).effective = e ∧
    (t.input i).lastPeak = none ∧ (t.input i).overload = false ∧
    t.holding i = { holder := none, queue := [] } ∧
    t.store.frontEnd.steps.pick i = step ∧ t.store.frontEnd.pads.pick i = pad ∧
    t.store.frontEnd.modes.pick i = mode ∧
    ∀ p, t.record p i = { anchor := e, trim := 0, mute := false, compLimited := false, applied := 0 } ∧
      (t.frontEnd.ovl.pick p).pick i = false ∧ (t.level.clip.pick p).pick i = false ∧
      (t.level.void.pick p).pick i = false) ∧
  (∀ g, t.group g =
    { state := if r.phantom.pick g then .charging else .off
      sense := (s.group g).sense
      chargeTimer := if r.phantom.pick g then some (Config.ms 600) else none
      dischargeTimer := none, lowSenseTimer := none, faultVoidTimer := none }) ∧
  t.arbiter.linked = r.linked ∧
  (∀ p, t.level.requested.pick p = .nearest ∧ t.level.inEffect.pick p = .nearest ∧
    t.mapsOf p = { live := .fill fun _ => none, draft := .fill fun _ => none, generation := 0, commitPending := false } ∧
    t.port p = PortLink.reset ∧ ∀ w, t.watch p w = Watch.reset) ∧
  t.clock.state = .free ∧ t.clock.rate = x.rate ∧ t.clock.length = ((if x.rate = .khz48 then 32768 else 16384 : Nat) : Rat) ∧
  t.clock.history = [] ∧ t.clock.inWindow = 0 ∧ t.clock.misses = 0 ∧ t.clock.relockRun = [] ∧ t.clock.refused = [] ∧ t.clock.predecessor = none ∧
  t.clock.acquireTimer = none ∧ t.clock.holdoverTimer = none ∧
  t.store.settings = x ∧ t.store.frontEnd.phantom = r.phantom ∧ t.store.frontEnd.linked = r.linked ∧
  t.store.dirty = false ∧ t.store.quietTimer = none ∧ t.store.ceilingTimer = none ∧
  t.store.settingsWrite = none ∧ t.store.frontEndWrite = none ∧ t.store.factoryPort = none ∧
  t.store.position = s.store.position

/-- POWER_ON loads each record whose CRC checks, and its defaults where it does not, and every block takes its start
values; nothing in storage is written (R24, R50, R69, R83, R102, R119, R139, R156, R163, R173). That the operands say
whether each CRC checks is log entry 2; that POWER_ON acts so from every phase, not from the phase without power alone, is
log entry 16. -/
def Obligations.PowerOnTakesTheStartValues : Prop :=
  ∀ (s : State) (settingsSound frontEndSound : Bool),
    let a := s.store.settingsCopy
    let b := s.store.frontEndCopy
    ∃ t, exec (.powerOn settingsSound frontEndSound) s = .next t ∧
      startsFrom s t
        (if a.sound = true ∧ settingsSound = true then a.record else defaultSettings)
        (if b.sound = true ∧ frontEndSound = true then b.record else defaultFrontEnd) ∧
      t.store.settingsCopy = { a with sound := a.sound && settingsSound } ∧
      t.store.frontEndCopy = { b with sound := b.sound && frontEndSound }

/-- The state with another port, or none, as that of the accepted FACTORY. -/
abbrev Sys2Proof.Claims.factoryBy (s : State) (x : Option Port) : State :=
  { s with store := { s.store with factoryPort := x } }

/-- The restart after an accepted FACTORY begins when its response leaves, or at the loss that flushes it, and all else
of that cycle start or loss is as without the FACTORY; it waits for both writes where both are in flight, and for one
where one is, then writes the default settings record and the default front-end record, and the part then starts from
them as at power-on (R170; that no further settings write follows in the restart is log entry 15, and whose response
begins it log entry 24). -/
def Obligations.FactoryRestartsFromTheDefaults : Prop :=
  ∀ (s : State) (p : Port) (schedule : List Port),
    (s.phase = .running → s.store.factoryPort = some p → (∀ q, (s.port q).requests = []) →
      (∃ r ∈ (s.port p).responses.take 4, r.kind = 16 ∧ r.outcome = .done) →
      ∃ t, exec (.cycleStart schedule) (factoryBy s none) = .next t ∧
        exec (.cycleStart schedule) s = .next (restarted (factoryBy t (some p)))) ∧
    (s.phase = .running → s.store.factoryPort = some p → (s.port p).attach = .detached →
      (s.port p).graceTimer ≠ none →
      ∃ t, exec (.graceExpiry p) (factoryBy s none) = .next t ∧
        exec (.graceExpiry p) s = .next (restarted (factoryBy t (some p)))) ∧
    (s.phase = .restartWaits → ∀ w, s.store.settingsWrite = some w → s.store.frontEndWrite ≠ none →
      exec .settingsWriteComplete s = .next { s with store := { s.store with
        settingsCopy := { record := w.record, sound := true }, settingsWrite := none } }) ∧
    (s.phase = .restartWaits → ∀ w, s.store.frontEndWrite = some w → s.store.settingsWrite ≠ none →
      exec .frontEndWriteComplete s = .next { s with store := { s.store with
        frontEndCopy := { record := w.record, sound := true }, frontEndWrite := none, dirty := w.changed } }) ∧
    (s.phase = .restartWaits → ∀ w, s.store.settingsWrite = some w → s.store.frontEndWrite = none →
      exec .settingsWriteComplete s = .next { s with
        phase := .restartSettings
        store := { s.store with
          settingsCopy := { record := w.record, sound := true }, settingsWrite := none
          settings := defaultSettings, frontEnd := defaultFrontEnd } }) ∧
    (s.phase = .restartWaits → ∀ w, s.store.frontEndWrite = some w → s.store.settingsWrite = none →
      exec .frontEndWriteComplete s = .next { s with
        phase := .restartSettings
        store := { s.store with
          frontEndCopy := { record := w.record, sound := true }, frontEndWrite := none, dirty := w.changed
          settings := defaultSettings, frontEnd := defaultFrontEnd } }) ∧
    (s.phase = .restartSettings → exec .factoryWriteComplete s = .next { s with
      phase := .restartFrontEnd
      store := { s.store with settingsCopy := { record := s.store.settings, sound := true } } }) ∧
    (s.phase = .restartFrontEnd → s.store.frontEnd = defaultFrontEnd →
      s.store.settingsCopy = { record := defaultSettings, sound := true } →
      ∃ t, exec .factoryWriteComplete s = .next t ∧ startsFrom s t defaultSettings defaultFrontEnd ∧
        t.store.settingsCopy = { record := defaultSettings, sound := true } ∧
        t.store.frontEndCopy = { record := defaultFrontEnd, sound := true })

/-- A turn of the key switch changes the position and nothing else (R168); a loss of power ends the run, and a write in
flight does not complete, so the last completed copies stand (R172). -/
def Obligations.TheSwitchTurnsAndPowerIsLost : Prop :=
  ∀ (s : State) (x : SwitchPosition),
    exec (.setupSwitchTurn x) s = .next { s with store := { s.store with position := x } } ∧
    exec .powerLoss s = .next { s with
      phase := .off, store := { s.store with settingsWrite := none, frontEndWrite := none } }

/-! ### Invariants -/

/-- The state after reset meets the whole invariant (the reset values that the manual leaves open are those of log
entries 1 and 3). -/
def Obligations.ResetMeetsTheInvariant : Prop := Safety.invariant State.reset

/-- Every step keeps the analog state in range, and every record in range and settled for its port's standing (R1, R2,
R4, R51, R52, R53). -/
def Obligations.StepsKeepAnalogStateAndRecords : Prop :=
  ∀ s t, Safety.invariant s → step s = .next t → analogInRange t ∧ recordsOk t

/-- Every step keeps the holdings lawful, the requested values of linked pairs equal, and an ABSENT port without
holding, draft, commit, watch or queue (R25, R26, R45, R74, R77, R118, R148, R163). -/
def Obligations.StepsKeepHoldingsAndLinks : Prop :=
  ∀ s t, Safety.invariant s → step s = .next t → holdingsOk t ∧ linkedRequestsAgree t ∧ absentOk t

/-- Every step keeps the group timers in their own states, every live map within 7,168 bytes, the watches lawful, and the
working copy and the deferred write as the store's rules state them (R8 to R10, R18, R70, R111, R157, R160, R161, R171,
R172). -/
def Obligations.StepsKeepGroupsMapsWatchesAndStore : Prop :=
  ∀ s t, Safety.invariant s → step s = .next t →
    groupsOk t ∧ mapsOk t ∧ watchesOk t ∧ workingCopyOk t ∧ deferredWriteOk t

/-- Every step keeps lanes, attach states and queues lawful, and the clock tracker in a lawful state with L within 16
ticks of N (R120, R125, R127, R131, R133, R142, R143, R146, R149 to R151). -/
def Obligations.StepsKeepLinksAndClock : Prop :=
  ∀ s t, Safety.invariant s → step s = .next t → linksOk t ∧ clockOk t
end

