-- ==== Sys2Proof/Laws/State.lean ====
section
/-! SUPPORT. Reads after writes: of a bank, and one lemma for each field and each accessor of the state after each
setter. Each is true by unfolding, and tagged for simp, so that no later proof unfolds a record update. -/

/-! ### Banks -/

namespace Vector

variable {α : Type} {n : Nat}

@[simp] theorem pick_put_self (b : Vector α n) (i : Fin n) (a : α) : (b.put i a).pick i = a := by
  simp [pick, put, Vector.get_eq_getElem]

theorem pick_put_ne (b : Vector α n) {i j : Fin n} (a : α) (h : j ≠ i) : (b.put i a).pick j = b.pick j := by
  have : i.val ≠ j.val := fun e => h (Fin.ext e.symm)
  simp [pick, put, Vector.get_eq_getElem, Vector.getElem_set_ne, this]

theorem pick_put (b : Vector α n) (i j : Fin n) (a : α) : (b.put i a).pick j = if j = i then a else b.pick j := by
  split
  · next h => subst h; exact pick_put_self b j a
  · next h => exact pick_put_ne b a h

@[simp] theorem pick_fill (f : Fin n → α) (i : Fin n) : (Vector.fill f).pick i = f i := by
  simp [pick, fill, Vector.get_eq_getElem]

theorem pick_ext {a b : Vector α n} (h : ∀ i, a.pick i = b.pick i) : a = b := by
  apply Vector.ext
  intro i hi
  have := h ⟨i, hi⟩
  simpa [pick, Vector.get_eq_getElem] using this

@[simp] theorem put_pick_self (b : Vector α n) (i : Fin n) : b.put i (b.pick i) = b :=
  pick_ext fun j => by rw [pick_put]; split <;> simp_all

@[simp] theorem put_put (b : Vector α n) (i : Fin n) (x y : α) : (b.put i x).put i y = b.put i y :=
  pick_ext fun j => by simp only [pick_put]; split <;> rfl

end Vector

namespace Sys2Proof.Machine

variable (s : State)

/-! ### setInput -/

section

variable (i : InputNo) (x : Preamp)

@[simp] theorem State.setInput_pending : (s.setInput i x).pending = s.pending := rfl
@[simp] theorem State.setInput_phase : (s.setInput i x).phase = s.phase := rfl
@[simp] theorem State.setInput_draws : (s.setInput i x).draws = s.draws := rfl
@[simp] theorem State.setInput_cycleCount : (s.setInput i x).cycleCount = s.cycleCount := rfl
@[simp] theorem State.setInput_arbiter : (s.setInput i x).arbiter = s.arbiter := rfl
@[simp] theorem State.setInput_level : (s.setInput i x).level = s.level := rfl
@[simp] theorem State.setInput_maps : (s.setInput i x).maps = s.maps := rfl
@[simp] theorem State.setInput_clock : (s.setInput i x).clock = s.clock := rfl
@[simp] theorem State.setInput_links : (s.setInput i x).links = s.links := rfl
@[simp] theorem State.setInput_watches : (s.setInput i x).watches = s.watches := rfl
@[simp] theorem State.setInput_store : (s.setInput i x).store = s.store := rfl
@[simp] theorem State.setInput_group (j : GroupNo) : (s.setInput i x).group j = s.group j := rfl
@[simp] theorem State.setInput_holding (j : InputNo) : (s.setInput i x).holding j = s.holding j := rfl
@[simp] theorem State.setInput_record (r' : Port) (j : InputNo) : (s.setInput i x).record r' j = s.record r' j := rfl
@[simp] theorem State.setInput_linked (j : PairNo) : (s.setInput i x).linked j = s.linked j := rfl
@[simp] theorem State.setInput_port (j : Port) : (s.setInput i x).port j = s.port j := rfl
@[simp] theorem State.setInput_mapsOf (j : Port) : (s.setInput i x).mapsOf j = s.mapsOf j := rfl
@[simp] theorem State.setInput_watch (r' : Port) (j : WatchNo) : (s.setInput i x).watch r' j = s.watch r' j := rfl

end

/-! ### setGroup -/

section

variable (g : GroupNo) (x : PhantomGroup)

@[simp] theorem State.setGroup_pending : (s.setGroup g x).pending = s.pending := rfl
@[simp] theorem State.setGroup_phase : (s.setGroup g x).phase = s.phase := rfl
@[simp] theorem State.setGroup_draws : (s.setGroup g x).draws = s.draws := rfl
@[simp] theorem State.setGroup_cycleCount : (s.setGroup g x).cycleCount = s.cycleCount := rfl
@[simp] theorem State.setGroup_arbiter : (s.setGroup g x).arbiter = s.arbiter := rfl
@[simp] theorem State.setGroup_level : (s.setGroup g x).level = s.level := rfl
@[simp] theorem State.setGroup_maps : (s.setGroup g x).maps = s.maps := rfl
@[simp] theorem State.setGroup_clock : (s.setGroup g x).clock = s.clock := rfl
@[simp] theorem State.setGroup_links : (s.setGroup g x).links = s.links := rfl
@[simp] theorem State.setGroup_watches : (s.setGroup g x).watches = s.watches := rfl
@[simp] theorem State.setGroup_store : (s.setGroup g x).store = s.store := rfl
@[simp] theorem State.setGroup_input (j : InputNo) : (s.setGroup g x).input j = s.input j := rfl
@[simp] theorem State.setGroup_holding (j : InputNo) : (s.setGroup g x).holding j = s.holding j := rfl
@[simp] theorem State.setGroup_record (r' : Port) (j : InputNo) : (s.setGroup g x).record r' j = s.record r' j := rfl
@[simp] theorem State.setGroup_linked (j : PairNo) : (s.setGroup g x).linked j = s.linked j := rfl
@[simp] theorem State.setGroup_port (j : Port) : (s.setGroup g x).port j = s.port j := rfl
@[simp] theorem State.setGroup_mapsOf (j : Port) : (s.setGroup g x).mapsOf j = s.mapsOf j := rfl
@[simp] theorem State.setGroup_watch (r' : Port) (j : WatchNo) : (s.setGroup g x).watch r' j = s.watch r' j := rfl

end

/-! ### setHolding -/

section

variable (i : InputNo) (h : Holding)

@[simp] theorem State.setHolding_pending : (s.setHolding i h).pending = s.pending := rfl
@[simp] theorem State.setHolding_phase : (s.setHolding i h).phase = s.phase := rfl
@[simp] theorem State.setHolding_draws : (s.setHolding i h).draws = s.draws := rfl
@[simp] theorem State.setHolding_cycleCount : (s.setHolding i h).cycleCount = s.cycleCount := rfl
@[simp] theorem State.setHolding_frontEnd : (s.setHolding i h).frontEnd = s.frontEnd := rfl
@[simp] theorem State.setHolding_level : (s.setHolding i h).level = s.level := rfl
@[simp] theorem State.setHolding_maps : (s.setHolding i h).maps = s.maps := rfl
@[simp] theorem State.setHolding_clock : (s.setHolding i h).clock = s.clock := rfl
@[simp] theorem State.setHolding_links : (s.setHolding i h).links = s.links := rfl
@[simp] theorem State.setHolding_watches : (s.setHolding i h).watches = s.watches := rfl
@[simp] theorem State.setHolding_store : (s.setHolding i h).store = s.store := rfl
@[simp] theorem State.setHolding_input (j : InputNo) : (s.setHolding i h).input j = s.input j := rfl
@[simp] theorem State.setHolding_group (j : GroupNo) : (s.setHolding i h).group j = s.group j := rfl
@[simp] theorem State.setHolding_record (r' : Port) (j : InputNo) : (s.setHolding i h).record r' j = s.record r' j := rfl
@[simp] theorem State.setHolding_linked (j : PairNo) : (s.setHolding i h).linked j = s.linked j := rfl
@[simp] theorem State.setHolding_port (j : Port) : (s.setHolding i h).port j = s.port j := rfl
@[simp] theorem State.setHolding_mapsOf (j : Port) : (s.setHolding i h).mapsOf j = s.mapsOf j := rfl
@[simp] theorem State.setHolding_watch (r' : Port) (j : WatchNo) : (s.setHolding i h).watch r' j = s.watch r' j := rfl

end

/-! ### setRecord -/

section

variable (q : Port) (i : InputNo) (r : CompRecord)

@[simp] theorem State.setRecord_pending : (s.setRecord q i r).pending = s.pending := rfl
@[simp] theorem State.setRecord_phase : (s.setRecord q i r).phase = s.phase := rfl
@[simp] theorem State.setRecord_draws : (s.setRecord q i r).draws = s.draws := rfl
@[simp] theorem State.setRecord_cycleCount : (s.setRecord q i r).cycleCount = s.cycleCount := rfl
@[simp] theorem State.setRecord_frontEnd : (s.setRecord q i r).frontEnd = s.frontEnd := rfl
@[simp] theorem State.setRecord_level : (s.setRecord q i r).level = s.level := rfl
@[simp] theorem State.setRecord_maps : (s.setRecord q i r).maps = s.maps := rfl
@[simp] theorem State.setRecord_clock : (s.setRecord q i r).clock = s.clock := rfl
@[simp] theorem State.setRecord_links : (s.setRecord q i r).links = s.links := rfl
@[simp] theorem State.setRecord_watches : (s.setRecord q i r).watches = s.watches := rfl
@[simp] theorem State.setRecord_store : (s.setRecord q i r).store = s.store := rfl
@[simp] theorem State.setRecord_input (j : InputNo) : (s.setRecord q i r).input j = s.input j := rfl
@[simp] theorem State.setRecord_group (j : GroupNo) : (s.setRecord q i r).group j = s.group j := rfl
@[simp] theorem State.setRecord_holding (j : InputNo) : (s.setRecord q i r).holding j = s.holding j := rfl
@[simp] theorem State.setRecord_linked (j : PairNo) : (s.setRecord q i r).linked j = s.linked j := rfl
@[simp] theorem State.setRecord_port (j : Port) : (s.setRecord q i r).port j = s.port j := rfl
@[simp] theorem State.setRecord_mapsOf (j : Port) : (s.setRecord q i r).mapsOf j = s.mapsOf j := rfl
@[simp] theorem State.setRecord_watch (r' : Port) (j : WatchNo) : (s.setRecord q i r).watch r' j = s.watch r' j := rfl

end

/-! ### setLinked -/

section

variable (k : PairNo) (b : Bool)

@[simp] theorem State.setLinked_pending : (s.setLinked k b).pending = s.pending := rfl
@[simp] theorem State.setLinked_phase : (s.setLinked k b).phase = s.phase := rfl
@[simp] theorem State.setLinked_draws : (s.setLinked k b).draws = s.draws := rfl
@[simp] theorem State.setLinked_cycleCount : (s.setLinked k b).cycleCount = s.cycleCount := rfl
@[simp] theorem State.setLinked_frontEnd : (s.setLinked k b).frontEnd = s.frontEnd := rfl
@[simp] theorem State.setLinked_level : (s.setLinked k b).level = s.level := rfl
@[simp] theorem State.setLinked_maps : (s.setLinked k b).maps = s.maps := rfl
@[simp] theorem State.setLinked_clock : (s.setLinked k b).clock = s.clock := rfl
@[simp] theorem State.setLinked_links : (s.setLinked k b).links = s.links := rfl
@[simp] theorem State.setLinked_watches : (s.setLinked k b).watches = s.watches := rfl
@[simp] theorem State.setLinked_store : (s.setLinked k b).store = s.store := rfl
@[simp] theorem State.setLinked_input (j : InputNo) : (s.setLinked k b).input j = s.input j := rfl
@[simp] theorem State.setLinked_group (j : GroupNo) : (s.setLinked k b).group j = s.group j := rfl
@[simp] theorem State.setLinked_holding (j : InputNo) : (s.setLinked k b).holding j = s.holding j := rfl
@[simp] theorem State.setLinked_record (r' : Port) (j : InputNo) : (s.setLinked k b).record r' j = s.record r' j := rfl
@[simp] theorem State.setLinked_port (j : Port) : (s.setLinked k b).port j = s.port j := rfl
@[simp] theorem State.setLinked_mapsOf (j : Port) : (s.setLinked k b).mapsOf j = s.mapsOf j := rfl
@[simp] theorem State.setLinked_watch (r' : Port) (j : WatchNo) : (s.setLinked k b).watch r' j = s.watch r' j := rfl

end

/-! ### setPort -/

section

variable (p : Port) (l : PortLink)

@[simp] theorem State.setPort_pending : (s.setPort p l).pending = s.pending := rfl
@[simp] theorem State.setPort_phase : (s.setPort p l).phase = s.phase := rfl
@[simp] theorem State.setPort_draws : (s.setPort p l).draws = s.draws := rfl
@[simp] theorem State.setPort_cycleCount : (s.setPort p l).cycleCount = s.cycleCount := rfl
@[simp] theorem State.setPort_frontEnd : (s.setPort p l).frontEnd = s.frontEnd := rfl
@[simp] theorem State.setPort_arbiter : (s.setPort p l).arbiter = s.arbiter := rfl
@[simp] theorem State.setPort_level : (s.setPort p l).level = s.level := rfl
@[simp] theorem State.setPort_maps : (s.setPort p l).maps = s.maps := rfl
@[simp] theorem State.setPort_clock : (s.setPort p l).clock = s.clock := rfl
@[simp] theorem State.setPort_watches : (s.setPort p l).watches = s.watches := rfl
@[simp] theorem State.setPort_store : (s.setPort p l).store = s.store := rfl
@[simp] theorem State.setPort_input (j : InputNo) : (s.setPort p l).input j = s.input j := rfl
@[simp] theorem State.setPort_group (j : GroupNo) : (s.setPort p l).group j = s.group j := rfl
@[simp] theorem State.setPort_holding (j : InputNo) : (s.setPort p l).holding j = s.holding j := rfl
@[simp] theorem State.setPort_record (r' : Port) (j : InputNo) : (s.setPort p l).record r' j = s.record r' j := rfl
@[simp] theorem State.setPort_linked (j : PairNo) : (s.setPort p l).linked j = s.linked j := rfl
@[simp] theorem State.setPort_mapsOf (j : Port) : (s.setPort p l).mapsOf j = s.mapsOf j := rfl
@[simp] theorem State.setPort_watch (r' : Port) (j : WatchNo) : (s.setPort p l).watch r' j = s.watch r' j := rfl

end

/-! ### setMaps -/

section

variable (p : Port) (m : PortMaps)

@[simp] theorem State.setMaps_pending : (s.setMaps p m).pending = s.pending := rfl
@[simp] theorem State.setMaps_phase : (s.setMaps p m).phase = s.phase := rfl
@[simp] theorem State.setMaps_draws : (s.setMaps p m).draws = s.draws := rfl
@[simp] theorem State.setMaps_cycleCount : (s.setMaps p m).cycleCount = s.cycleCount := rfl
@[simp] theorem State.setMaps_frontEnd : (s.setMaps p m).frontEnd = s.frontEnd := rfl
@[simp] theorem State.setMaps_arbiter : (s.setMaps p m).arbiter = s.arbiter := rfl
@[simp] theorem State.setMaps_level : (s.setMaps p m).level = s.level := rfl
@[simp] theorem State.setMaps_clock : (s.setMaps p m).clock = s.clock := rfl
@[simp] theorem State.setMaps_links : (s.setMaps p m).links = s.links := rfl
@[simp] theorem State.setMaps_watches : (s.setMaps p m).watches = s.watches := rfl
@[simp] theorem State.setMaps_store : (s.setMaps p m).store = s.store := rfl
@[simp] theorem State.setMaps_input (j : InputNo) : (s.setMaps p m).input j = s.input j := rfl
@[simp] theorem State.setMaps_group (j : GroupNo) : (s.setMaps p m).group j = s.group j := rfl
@[simp] theorem State.setMaps_holding (j : InputNo) : (s.setMaps p m).holding j = s.holding j := rfl
@[simp] theorem State.setMaps_record (r' : Port) (j : InputNo) : (s.setMaps p m).record r' j = s.record r' j := rfl
@[simp] theorem State.setMaps_linked (j : PairNo) : (s.setMaps p m).linked j = s.linked j := rfl
@[simp] theorem State.setMaps_port (j : Port) : (s.setMaps p m).port j = s.port j := rfl
@[simp] theorem State.setMaps_watch (r' : Port) (j : WatchNo) : (s.setMaps p m).watch r' j = s.watch r' j := rfl

end

/-! ### setWatch -/

section

variable (p : Port) (w : WatchNo) (x : Watch)

@[simp] theorem State.setWatch_pending : (s.setWatch p w x).pending = s.pending := rfl
@[simp] theorem State.setWatch_phase : (s.setWatch p w x).phase = s.phase := rfl
@[simp] theorem State.setWatch_draws : (s.setWatch p w x).draws = s.draws := rfl
@[simp] theorem State.setWatch_cycleCount : (s.setWatch p w x).cycleCount = s.cycleCount := rfl
@[simp] theorem State.setWatch_frontEnd : (s.setWatch p w x).frontEnd = s.frontEnd := rfl
@[simp] theorem State.setWatch_arbiter : (s.setWatch p w x).arbiter = s.arbiter := rfl
@[simp] theorem State.setWatch_level : (s.setWatch p w x).level = s.level := rfl
@[simp] theorem State.setWatch_maps : (s.setWatch p w x).maps = s.maps := rfl
@[simp] theorem State.setWatch_clock : (s.setWatch p w x).clock = s.clock := rfl
@[simp] theorem State.setWatch_links : (s.setWatch p w x).links = s.links := rfl
@[simp] theorem State.setWatch_store : (s.setWatch p w x).store = s.store := rfl
@[simp] theorem State.setWatch_input (j : InputNo) : (s.setWatch p w x).input j = s.input j := rfl
@[simp] theorem State.setWatch_group (j : GroupNo) : (s.setWatch p w x).group j = s.group j := rfl
@[simp] theorem State.setWatch_holding (j : InputNo) : (s.setWatch p w x).holding j = s.holding j := rfl
@[simp] theorem State.setWatch_record (r' : Port) (j : InputNo) : (s.setWatch p w x).record r' j = s.record r' j := rfl
@[simp] theorem State.setWatch_linked (j : PairNo) : (s.setWatch p w x).linked j = s.linked j := rfl
@[simp] theorem State.setWatch_port (j : Port) : (s.setWatch p w x).port j = s.port j := rfl
@[simp] theorem State.setWatch_mapsOf (j : Port) : (s.setWatch p w x).mapsOf j = s.mapsOf j := rfl

end

/-! ### noteChange -/

section

variable (e : StoredFrontEnd)

@[simp] theorem State.noteChange_pending : (s.noteChange e).pending = s.pending := rfl
@[simp] theorem State.noteChange_phase : (s.noteChange e).phase = s.phase := rfl
@[simp] theorem State.noteChange_draws : (s.noteChange e).draws = s.draws := rfl
@[simp] theorem State.noteChange_cycleCount : (s.noteChange e).cycleCount = s.cycleCount := rfl
@[simp] theorem State.noteChange_frontEnd : (s.noteChange e).frontEnd = s.frontEnd := rfl
@[simp] theorem State.noteChange_arbiter : (s.noteChange e).arbiter = s.arbiter := rfl
@[simp] theorem State.noteChange_level : (s.noteChange e).level = s.level := rfl
@[simp] theorem State.noteChange_maps : (s.noteChange e).maps = s.maps := rfl
@[simp] theorem State.noteChange_clock : (s.noteChange e).clock = s.clock := rfl
@[simp] theorem State.noteChange_links : (s.noteChange e).links = s.links := rfl
@[simp] theorem State.noteChange_watches : (s.noteChange e).watches = s.watches := rfl
@[simp] theorem State.noteChange_input (j : InputNo) : (s.noteChange e).input j = s.input j := rfl
@[simp] theorem State.noteChange_group (j : GroupNo) : (s.noteChange e).group j = s.group j := rfl
@[simp] theorem State.noteChange_holding (j : InputNo) : (s.noteChange e).holding j = s.holding j := rfl
@[simp] theorem State.noteChange_record (r' : Port) (j : InputNo) : (s.noteChange e).record r' j = s.record r' j := rfl
@[simp] theorem State.noteChange_linked (j : PairNo) : (s.noteChange e).linked j = s.linked j := rfl
@[simp] theorem State.noteChange_port (j : Port) : (s.noteChange e).port j = s.port j := rfl
@[simp] theorem State.noteChange_mapsOf (j : Port) : (s.noteChange e).mapsOf j = s.mapsOf j := rfl
@[simp] theorem State.noteChange_watch (r' : Port) (j : WatchNo) : (s.noteChange e).watch r' j = s.watch r' j := rfl

end

/-! ### appendResponse -/

section

variable (p : Port) (x : Response)

@[simp] theorem State.appendResponse_pending : (s.appendResponse p x).pending = s.pending := rfl
@[simp] theorem State.appendResponse_phase : (s.appendResponse p x).phase = s.phase := rfl
@[simp] theorem State.appendResponse_draws : (s.appendResponse p x).draws = s.draws := rfl
@[simp] theorem State.appendResponse_cycleCount : (s.appendResponse p x).cycleCount = s.cycleCount := rfl
@[simp] theorem State.appendResponse_frontEnd : (s.appendResponse p x).frontEnd = s.frontEnd := rfl
@[simp] theorem State.appendResponse_arbiter : (s.appendResponse p x).arbiter = s.arbiter := rfl
@[simp] theorem State.appendResponse_level : (s.appendResponse p x).level = s.level := rfl
@[simp] theorem State.appendResponse_maps : (s.appendResponse p x).maps = s.maps := rfl
@[simp] theorem State.appendResponse_clock : (s.appendResponse p x).clock = s.clock := rfl
@[simp] theorem State.appendResponse_watches : (s.appendResponse p x).watches = s.watches := rfl
@[simp] theorem State.appendResponse_store : (s.appendResponse p x).store = s.store := rfl
@[simp] theorem State.appendResponse_input (j : InputNo) : (s.appendResponse p x).input j = s.input j := rfl
@[simp] theorem State.appendResponse_group (j : GroupNo) : (s.appendResponse p x).group j = s.group j := rfl
@[simp] theorem State.appendResponse_holding (j : InputNo) : (s.appendResponse p x).holding j = s.holding j := rfl
@[simp] theorem State.appendResponse_record (r' : Port) (j : InputNo) : (s.appendResponse p x).record r' j = s.record r' j := rfl
@[simp] theorem State.appendResponse_linked (j : PairNo) : (s.appendResponse p x).linked j = s.linked j := rfl
@[simp] theorem State.appendResponse_mapsOf (j : Port) : (s.appendResponse p x).mapsOf j = s.mapsOf j := rfl
@[simp] theorem State.appendResponse_watch (r' : Port) (j : WatchNo) : (s.appendResponse p x).watch r' j = s.watch r' j := rfl

end

/-! ### The written entry -/

theorem State.input_setInput (i j : InputNo) (x : Preamp) :
    (s.setInput i x).input j = if j = i then x else s.input j := Vector.pick_put _ _ _ _

theorem State.group_setGroup (i j : GroupNo) (x : PhantomGroup) :
    (s.setGroup i x).group j = if j = i then x else s.group j := Vector.pick_put _ _ _ _

theorem State.holding_setHolding (i j : InputNo) (x : Holding) :
    (s.setHolding i x).holding j = if j = i then x else s.holding j := Vector.pick_put _ _ _ _

theorem State.linked_setLinked (i j : PairNo) (x : Bool) :
    (s.setLinked i x).linked j = if j = i then x else s.linked j := Vector.pick_put _ _ _ _

theorem State.port_setPort (i j : Port) (x : PortLink) :
    (s.setPort i x).port j = if j = i then x else s.port j := Vector.pick_put _ _ _ _

theorem State.mapsOf_setMaps (i j : Port) (x : PortMaps) :
    (s.setMaps i x).mapsOf j = if j = i then x else s.mapsOf j := Vector.pick_put _ _ _ _

theorem State.record_setRecord (q p : Port) (i j : InputNo) (x : CompRecord) :
    (s.setRecord q i x).record p j = if p = q ∧ j = i then x else s.record p j := by
  simp only [State.record, State.setRecord, Vector.pick_put]
  by_cases h : p = q
  · subst h; simp [Vector.pick_put]
  · simp [h]

theorem State.watch_setWatch (q p : Port) (i j : WatchNo) (x : Watch) :
    (s.setWatch q i x).watch p j = if p = q ∧ j = i then x else s.watch p j := by
  simp only [State.watch, State.setWatch, Vector.pick_put]
  by_cases h : p = q
  · subst h; simp [Vector.pick_put]
  · simp [h]

@[simp] theorem State.setPort_setPort (p : Port) (x y : PortLink) : (s.setPort p x).setPort p y = s.setPort p y := by
  simp [State.setPort]

@[simp] theorem State.setPort_self (p : Port) : s.setPort p (s.port p) = s := by
  simp [State.setPort, State.port]

@[simp] theorem PortLink.lane_setLane_self (l : PortLink) (n : LaneId) (x : Lane) : (l.setLane n x).lane n = x := by
  cases n <;> rfl

end Sys2Proof.Machine
end

