-- ==== Sys2Proof/Laws/Ops.lean ====
section
/-! SUPPORT. One lemma for each shared operation that says what it does, for proofs to cite instead of unfolding it. -/

namespace Sys2Proof.Machine

/-! ### Clamps and numbering -/

theorem clamp_eq {lo hi : Int} (h : lo ≤ hi) (x : Int) : clamp lo hi x = max lo (min hi x) := by
  unfold clamp
  split
  · omega
  · split <;> omega

theorem clampGain_eq (x : Int) : clampGain x = max (-160) (min 96 x) := clamp_eq (by decide) x

theorem clampGain_range (x : Int) : -160 ≤ clampGain x ∧ clampGain x ≤ 96 := by
  rw [clampGain_eq]; omega

@[simp] theorem pairOf_evenOf (k : PairNo) : pairOf (evenOf k) = k := by
  ext; simp only [pairOf, evenOf]; omega

@[simp] theorem pairOf_oddOf (k : PairNo) : pairOf (oddOf k) = k := by
  ext; simp only [pairOf, oddOf]; omega

theorem evenOf_ne_oddOf (k : PairNo) : evenOf k ≠ oddOf k := by
  intro h; have := congrArg Fin.val h; simp only [evenOf, oddOf] at this; omega

theorem eq_evenOf_or_oddOf (i : InputNo) : i = evenOf (pairOf i) ∨ i = oddOf (pairOf i) := by
  rcases Nat.mod_two_eq_zero_or_one i.val with h | h
  · left; ext; simp only [evenOf, pairOf]; omega
  · right; ext; simp only [oddOf, pairOf]; omega

/-! ### Units (R25) -/

theorem State.isLinkedOdd_iff (s : State) (i : InputNo) :
    s.isLinkedOdd i = true ↔ i.val % 2 = 1 ∧ s.linked (pairOf i) = true := by
  simp [State.isLinkedOdd]

theorem State.unitOf_eq_self {s : State} {i : InputNo} (h : s.isLinkedOdd i = false) : s.unitOf i = i := by
  unfold State.unitOf
  split
  · next hl =>
    rcases eq_evenOf_or_oddOf i with e | e
    · exact e.symm
    · have : i.val % 2 = 1 := by rw [e]; simp only [oddOf]; omega
      simp [State.isLinkedOdd, hl, this] at h
  · rfl

theorem State.mem_members {s : State} {u j : InputNo} (h : s.isLinkedOdd u = false) :
    j ∈ s.members u ↔ j = u ∨ (s.linked (pairOf u) = true ∧ pairOf j = pairOf u) := by
  unfold State.members
  split
  · next hl =>
    have hu : u = evenOf (pairOf u) := by
      have := State.unitOf_eq_self h
      simp only [State.unitOf, hl, if_true] at this
      exact this.symm
    constructor
    · intro hj
      right
      refine ⟨hl, ?_⟩
      rcases List.mem_cons.mp hj with rfl | hj
      · simp
      · rcases List.mem_cons.mp hj with rfl | hj
        · simp
        · cases hj
    · rintro (rfl | ⟨-, e⟩)
      · rw [← hu]; simp
      · rcases eq_evenOf_or_oddOf j with e' | e' <;> rw [e', e] <;> simp
  · next hl => simp [hl]

theorem State.members_nodup (s : State) (u : InputNo) : (s.members u).Nodup := by
  unfold State.members
  split
  · simp [evenOf_ne_oddOf]
  · simp

/-! ### Records (R52, R53) -/

theorem CompRecord.recompute_holder (r : CompRecord) (e : Int) :
    r.recompute true e = { r with applied := r.trim, compLimited := false } := rfl

theorem CompRecord.recompute_other (r : CompRecord) (e : Int) :
    r.recompute false e =
      { r with
        applied := max (-160) (min 96 (r.trim + 4 * (r.anchor - e)))
        compLimited := decide (r.trim + 4 * (r.anchor - e) < -160 ∨ 96 < r.trim + 4 * (r.anchor - e)) } := by
  have : (max (-160) (min 96 (r.trim + 4 * (r.anchor - e))) ≠ r.trim + 4 * (r.anchor - e)) ↔
      (r.trim + 4 * (r.anchor - e) < -160 ∨ 96 < r.trim + 4 * (r.anchor - e)) := by omega
  simp only [CompRecord.recompute, CompRecord.unclamped, clampGain_eq, this]
  rfl

/-! ### The store's reaction (R171) -/

theorem Store.noteChange_clean (st : Store) (e : StoredFrontEnd) (hw : st.frontEndWrite = none)
    (hd : st.dirty = false) :
    st.noteChange e =
      { st with frontEnd := e, dirty := true, quietTimer := some (Config.ms 2000),
                ceilingTimer := some (Config.ms 10000) } := by
  simp [Store.noteChange, hw, hd, Config.twoSeconds, Config.tenSeconds]

theorem Store.noteChange_dirty (st : Store) (e : StoredFrontEnd) (hw : st.frontEndWrite = none)
    (hd : st.dirty = true) :
    st.noteChange e = { st with frontEnd := e, quietTimer := some (Config.ms 2000) } := by
  cases st; simp_all [Store.noteChange, Config.twoSeconds]

theorem Store.noteChange_writing (st : Store) (e : StoredFrontEnd) {w : FrontEndWrite}
    (hw : st.frontEndWrite = some w) :
    st.noteChange e =
      { st with
        frontEnd := e
        dirty := true
        quietTimer := some (Config.ms 2000)
        ceilingTimer := if w.changed then st.ceilingTimer else some (Config.ms 10000)
        frontEndWrite := some { w with changed := true } } := by
  cases h : w.changed <;> simp [Store.noteChange, hw, h, Config.twoSeconds, Config.tenSeconds]

/-- A second change in the same event only adds its value. -/
theorem Store.noteChange_noteChange (st : Store) (e e' : StoredFrontEnd) :
    (st.noteChange e).noteChange e' = st.noteChange e' := by
  rcases hw : st.frontEndWrite with _ | w
  · simp [Store.noteChange, hw]
  · simp [Store.noteChange, hw]

/-! ### Requests (R149, R150) -/

/-- A request that finds nothing before it and a free place for its response is taken as it arrives. -/
theorem State.request_ready {s : State} {p : Port} (r : Request) (ha : (s.port p).attach ≠ .absent)
    (hq : (s.port p).requests = []) (hr : (s.port p).responses.length < 8) : s.request p r = s.serve p r := by
  have hs : (s.setPort p { s.port p with requests := [] }) = s := by
    have : { s.port p with requests := [] } = s.port p := by cases h : s.port p; simp_all
    rw [this, State.setPort_self]
  simp [State.request, ha, State.join, hq, Config.queuePlaces, State.drain, State.takes, State.takeOne,
    State.port_setPort, hr, hs]

/-- With a full response queue a request waits at the back of its queue. -/
theorem State.request_waits {s : State} {p : Port} (r : Request) (ha : (s.port p).attach ≠ .absent)
    (hq : (s.port p).requests.length < 8) (hr : (s.port p).responses.length = 8) :
    s.request p r = s.setPort p { s.port p with requests := (s.port p).requests ++ [r] } := by
  have takes : ∀ n, (s.setPort p { s.port p with requests := (s.port p).requests ++ [r] }).takes p n =
      s.setPort p { s.port p with requests := (s.port p).requests ++ [r] } := by
    intro n
    induction n with
    | zero => rfl
    | succ n ih =>
      have one : (s.setPort p { s.port p with requests := (s.port p).requests ++ [r] }).takeOne p =
          s.setPort p { s.port p with requests := (s.port p).requests ++ [r] } := by
        unfold State.takeOne
        split
        · rfl
        · simp [State.port_setPort, hr, Config.queuePlaces]
      rw [State.takes, one, ih]
  simp [State.request, ha, State.join, Config.queuePlaces, hq, State.drain, takes]

/-- A request that finds 8 requests in the queue is dropped. -/
theorem State.request_overruns {s : State} {p : Port} (r : Request) (ha : (s.port p).attach ≠ .absent)
    (hq : 8 ≤ (s.port p).requests.length) : s.request p r = s.setPort p { s.port p with overrun := true } := by
  simp [State.request, ha, State.join, Config.queuePlaces, Nat.not_lt.mpr hq]

/-- Taking a request appends one response to its own port's queue and changes no link but by that. -/
theorem State.serve_eq (s : State) (p : Port) (r : Request) :
    s.serve p r = (decideRequest p r s).1.setPort p
      { (decideRequest p r s).1.port p with
        responses := ((decideRequest p r s).1.port p).responses ++ [(decideRequest p r s).2.toResponse r] } := rfl

/-! ### Maps and CLIP (R84, R97, R111) -/

/-- The map that goes live is the one the cycle end went by, where the port's maps have not changed since. -/
@[simp] theorem PortMaps.goLive_live (m : PortMaps) : m.goLive.live = m.next := by
  unfold PortMaps.goLive PortMaps.next; split <;> rfl

theorem State.clipBy_pick (s : State) (b : Vector (Vector Bool 32) 4) (m : Port → SlotMap) (p : Port) (i : InputNo) :
    ((s.clipBy b m).pick p).pick i = ((b.pick p).pick i || s.clips p (m p) i) := by
  simp [State.clipBy]

/-- Nothing awaits its map: the stickies stand. -/
theorem State.settleClip_none {s : State} (h : s.level.clipBefore = none) : s.settleClip = s := by
  simp [State.settleClip, h]

/-- The stickies before the cycle end, with those that the live maps call for. -/
theorem State.settleClip_some {s : State} {b : Vector (Vector Bool 32) 4} (h : s.level.clipBefore = some b) :
    s.settleClip =
      { s with level := { s.level with clip := s.clipBy b fun p => (s.mapsOf p).live, clipBefore := none } } := by
  simp [State.settleClip, h]

/-- A cycle start right after its cycle end leaves the CLIP stickies as that cycle end set them. -/
theorem State.setStickies_goLive_settleClip (s : State) :
    s.setStickies.goLive.settleClip.level.clip = s.setStickies.level.clip := by
  simp only [State.settleClip, State.goLive, State.setStickies]
  refine Vector.pick_ext fun p => Vector.pick_ext fun i => ?_
  simp only [State.clipBy_pick, State.mapsOf, Vector.pick_fill, PortMaps.goLive_live]
  rfl

/-! ### Running -/

@[simp] theorem State.whenRunning_running {s : State} (t : State) (h : s.phase = .running) : s.whenRunning t = t := by
  simp [State.whenRunning, h]

theorem State.whenRunning_stopped {s : State} (t : State) (h : s.phase ≠ .running) : s.whenRunning t = s := by
  simp [State.whenRunning, h]

end Sys2Proof.Machine
end

