-- ==== Sys2Proof/Laws/Requests.lean ====
section
/-! SUPPORT. Deciding a request neither reads nor writes what stands in the port links, but for the attach states, which
the clock tracker reads on a CLOCK_LIST write: so requests may be decided with the waiting ones put aside. -/

namespace Sys2Proof.Machine

/-- The state with other port links. -/
def State.withLinks (s : State) (x : Vector PortLink 4) : State := { s with links := x }

variable (s : State) (x : Vector PortLink 4)

@[simp] theorem State.withLinks_links : (s.withLinks x).links = x := rfl
@[simp] theorem State.withLinks_self : s.withLinks s.links = s := rfl
@[simp] theorem State.withLinks_withLinks (y : Vector PortLink 4) : (s.withLinks x).withLinks y = s.withLinks y := rfl
@[simp] theorem State.withLinks_pending : (s.withLinks x).pending = s.pending := rfl
@[simp] theorem State.withLinks_phase : (s.withLinks x).phase = s.phase := rfl
@[simp] theorem State.withLinks_draws : (s.withLinks x).draws = s.draws := rfl
@[simp] theorem State.withLinks_cycleCount : (s.withLinks x).cycleCount = s.cycleCount := rfl
@[simp] theorem State.withLinks_frontEnd : (s.withLinks x).frontEnd = s.frontEnd := rfl
@[simp] theorem State.withLinks_arbiter : (s.withLinks x).arbiter = s.arbiter := rfl
@[simp] theorem State.withLinks_level : (s.withLinks x).level = s.level := rfl
@[simp] theorem State.withLinks_maps : (s.withLinks x).maps = s.maps := rfl
@[simp] theorem State.withLinks_clock : (s.withLinks x).clock = s.clock := rfl
@[simp] theorem State.withLinks_watches : (s.withLinks x).watches = s.watches := rfl
@[simp] theorem State.withLinks_store : (s.withLinks x).store = s.store := rfl
@[simp] theorem State.withLinks_input (i : InputNo) : (s.withLinks x).input i = s.input i := rfl
@[simp] theorem State.withLinks_group (g : GroupNo) : (s.withLinks x).group g = s.group g := rfl
@[simp] theorem State.withLinks_holding (i : InputNo) : (s.withLinks x).holding i = s.holding i := rfl
@[simp] theorem State.withLinks_record (q : Port) (i : InputNo) : (s.withLinks x).record q i = s.record q i := rfl
@[simp] theorem State.withLinks_linked (k : PairNo) : (s.withLinks x).linked k = s.linked k := rfl
@[simp] theorem State.withLinks_mapsOf (p : Port) : (s.withLinks x).mapsOf p = s.mapsOf p := rfl
@[simp] theorem State.withLinks_watch (p : Port) (w : WatchNo) : (s.withLinks x).watch p w = s.watch p w := rfl
@[simp] theorem State.withLinks_isLinkedOdd (i : InputNo) : (s.withLinks x).isLinkedOdd i = s.isLinkedOdd i := rfl
@[simp] theorem State.withLinks_unitOf (i : InputNo) : (s.withLinks x).unitOf i = s.unitOf i := rfl
@[simp] theorem State.withLinks_members (u : InputNo) : (s.withLinks x).members u = s.members u := rfl
@[simp] theorem State.withLinks_holds (p : Port) (i : InputNo) : (s.withLinks x).holds p i = s.holds p i := rfl
@[simp] theorem State.withLinks_standing (p : Port) (u : InputNo) : (s.withLinks x).standing p u = s.standing p u := rfl
@[simp] theorem State.withLinks_effective (i : InputNo) : (s.withLinks x).effective i = s.effective i := rfl
@[simp] theorem State.withLinks_contested (p : Port) (g : GroupNo) :
    (s.withLinks x).contested p g = s.contested p g := rfl
@[simp] theorem State.withLinks_oddIsClear (p : Port) (k : PairNo) :
    (s.withLinks x).oddIsClear p k = s.oddIsClear p k := rfl
@[simp] theorem State.withLinks_faultWord (p : Port) : (s.withLinks x).faultWord p = s.faultWord p := rfl

/-! ### The operations -/

@[simp] theorem State.setInput_withLinks (i : InputNo) (y : Preamp) :
    (s.withLinks x).setInput i y = (s.setInput i y).withLinks x := rfl
@[simp] theorem State.setGroup_withLinks (g : GroupNo) (y : PhantomGroup) :
    (s.withLinks x).setGroup g y = (s.setGroup g y).withLinks x := rfl
@[simp] theorem State.setHolding_withLinks (i : InputNo) (y : Holding) :
    (s.withLinks x).setHolding i y = (s.setHolding i y).withLinks x := rfl
@[simp] theorem State.setRecord_withLinks (q : Port) (i : InputNo) (y : CompRecord) :
    (s.withLinks x).setRecord q i y = (s.setRecord q i y).withLinks x := rfl
@[simp] theorem State.setLinked_withLinks (k : PairNo) (b : Bool) :
    (s.withLinks x).setLinked k b = (s.setLinked k b).withLinks x := rfl
@[simp] theorem State.setMaps_withLinks (p : Port) (m : PortMaps) :
    (s.withLinks x).setMaps p m = (s.setMaps p m).withLinks x := rfl
@[simp] theorem State.setWatch_withLinks (p : Port) (w : WatchNo) (y : Watch) :
    (s.withLinks x).setWatch p w y = (s.setWatch p w y).withLinks x := rfl
@[simp] theorem State.noteChange_withLinks (e : StoredFrontEnd) :
    (s.withLinks x).noteChange e = (s.noteChange e).withLinks x := rfl
@[simp] theorem State.setQueue_withLinks (u : InputNo) (l : List Port) :
    (s.withLinks x).setQueue u l = (s.setQueue u l).withLinks x := rfl
@[simp] theorem State.withdraw_withLinks (u : InputNo) (p : Port) :
    (s.withLinks x).withdraw u p = (s.withdraw u p).withLinks x := rfl
@[simp] theorem State.releaseMember_withLinks (h : Port) (j : InputNo) :
    (s.withLinks x).releaseMember h j = (s.releaseMember h j).withLinks x := rfl
@[simp] theorem State.grantMember_withLinks (q : Port) (j : InputNo) :
    (s.withLinks x).grantMember q j = (s.grantMember q j).withLinks x := rfl
@[simp] theorem State.writeTrim_withLinks (p : Port) (v : Int) (j : InputNo) :
    (s.withLinks x).writeTrim p v j = (s.writeTrim p v j).withLinks x := rfl
@[simp] theorem State.writeMute_withLinks (p : Port) (b : Bool) (j : InputNo) :
    (s.withLinks x).writeMute p b j = (s.writeMute p b j).withLinks x := rfl
@[simp] theorem State.requestPad_withLinks (i : InputNo) (b : Bool) :
    (s.withLinks x).requestPad i b = (s.requestPad i b).withLinks x := rfl
@[simp] theorem State.requestMode_withLinks (i : InputNo) (m : Mode) :
    (s.withLinks x).requestMode i m = (s.requestMode i m).withLinks x := rfl
@[simp] theorem State.changeLink_withLinks (k : PairNo) (b : Bool) :
    (s.withLinks x).changeLink k b = (s.changeLink k b).withLinks x := rfl
@[simp] theorem State.unlinkPair_withLinks (k : PairNo) :
    (s.withLinks x).unlinkPair k = (s.unlinkPair k).withLinks x := rfl
@[simp] theorem State.writeDraft_withLinks (p : Port) (k : SlotNo) (e : Option SlotEntry) :
    (s.withLinks x).writeDraft p k e = (s.writeDraft p k e).withLinks x := rfl

@[simp] theorem State.setGainTarget_withLinks (i : InputNo) (n : Nat) :
    (s.withLinks x).setGainTarget i n = (s.setGainTarget i n).withLinks x := by
  by_cases h : (s.input i).gainTarget = n <;> simp [State.setGainTarget, h]

@[simp] theorem State.reachInput_withLinks (i : InputNo) :
    (s.withLinks x).reachInput i = (s.reachInput i).withLinks x := by
  by_cases h : (s.input i).modeInEffect = .mic <;> simp [State.reachInput, h]

/-- A fold of operations that do not see the port links does not see them either. -/
theorem State.foldl_withLinks {α : Type} (f : State → α → State)
    (hf : ∀ s a, f (State.withLinks s x) a = (f s a).withLinks x) (l : List α) :
    l.foldl f (s.withLinks x) = (l.foldl f s).withLinks x := by
  induction l generalizing s with
  | nil => rfl
  | cons a l ih => rw [List.foldl_cons, hf, ih]; rfl

@[simp] theorem State.release_withLinks (u : InputNo) (h : Port) :
    (s.withLinks x).release u h = (s.release u h).withLinks x :=
  State.foldl_withLinks _ _ _ (fun _ _ => rfl) _

@[simp] theorem State.grant_withLinks (u : InputNo) (q : Port) :
    (s.withLinks x).grant u q = (s.grant u q).withLinks x :=
  State.foldl_withLinks (s.setQueue u ((s.holding u).queue.erase q)) x _ (fun _ _ => rfl) _

@[simp] theorem State.displace_withLinks (u : InputNo) (h p : Port) :
    (s.withLinks x).displace u h p = (s.displace u h p).withLinks x := by
  simp [State.displace]

@[simp] theorem State.passOn_withLinks (u : InputNo) (h : Port) :
    (s.withLinks x).passOn u h = (s.passOn u h).withLinks x := by
  simp only [State.passOn, State.release_withLinks, State.withLinks_holding]; split <;> simp

@[simp] theorem State.changeGroup_withLinks (g : GroupNo) (y : PhantomGroup) :
    (s.withLinks x).changeGroup g y = (s.changeGroup g y).withLinks x := by
  have h := State.foldl_withLinks (s.setGroup g y) x State.reachInput (fun s i => s.reachInput_withLinks x i)
    (groupInputs g)
  by_cases a : y.state.live = true <;> by_cases b : (s.group g).state.live = y.state.live <;>
    simp_all [State.changeGroup]

@[simp] theorem State.conformAnalog_withLinks (k : PairNo) :
    (s.withLinks x).conformAnalog k = (s.conformAnalog k).withLinks x := by
  simp [State.conformAnalog]

@[simp] theorem State.copyRecords_withLinks (k : PairNo) (p : Port) :
    (s.withLinks x).copyRecords k p = (s.copyRecords k p).withLinks x :=
  State.foldl_withLinks s x _ (fun _ _ => rfl) _

@[simp] theorem State.linkPair_withLinks (k : PairNo) (p : Port) :
    (s.withLinks x).linkPair k p = (s.linkPair k p).withLinks x := by
  simp [State.linkPair]

/-- The clock tracker reads the attach states only. -/
theorem State.clockListWritten_withLinks (h : ∀ p, (x.pick p).attach = (s.port p).attach) :
    (s.withLinks x).clockListWritten = s.clockListWritten.withLinks x := by
  have c (y : Clock) :
      State.firstCandidate { s.withLinks x with clock := y } = State.firstCandidate { s with clock := y } := by
    have : State.candidate { s.withLinks x with clock := y } = State.candidate { s with clock := y } := by
      funext p
      simp only [State.candidate, State.attached]
      rw [show (State.port { s.withLinks x with clock := y } p).attach = (x.pick p).attach from rfl, h p]
      rfl
    simp only [State.firstCandidate, this]; rfl
  have l (y : Clock) (r : Port) : State.listed { s.withLinks x with clock := y } r = s.listed r := rfl
  have l' (y : Clock) (r : Port) : State.listed { s with clock := y } r = s.listed r := rfl
  rcases e : s.clock.state with _ | r | r | r
  · simp only [State.clockListWritten, State.withLinks_clock, e, ClockState.reference, State.leaveFree, c]
    split <;> rfl
  all_goals
    simp only [State.clockListWritten, State.withLinks_clock, e, ClockState.reference, State.loseReference, c, l, l']
    cases s.listed r
    · first
      | rfl
      | (generalize State.firstCandidate _ = o; cases o <;> rfl)
    · rfl

/-! ### The decisions -/

/-- A decision with other port links. -/
abbrev State.decidedWith (x : Vector PortLink 4) (d : State × Reply) : State × Reply := (d.1.withLinks x, d.2)

theorem decideClaim_withLinks (p : Port) (c : Byte) :
    decideClaim p c (s.withLinks x) = State.decidedWith x (decideClaim p c s) := by
  simp [decideClaim, standingReply]; repeat' (split <;> try simp_all)

theorem decideYield_withLinks (p : Port) (c : Byte) :
    decideYield p c (s.withLinks x) = State.decidedWith x (decideYield p c s) := by
  simp [decideYield, standingReply]; repeat' (split <;> try simp_all)

theorem decideGain_withLinks (p : Port) (c : Byte) (a : Half) :
    decideGain p c a (s.withLinks x) = State.decidedWith x (decideGain p c a s) := by
  have f i := State.foldl_withLinks s x (fun t j => t.setGainTarget j (stepOperand a)) (fun _ _ => by simp)
    (s.members i)
  simp [decideGain, f]; repeat' (split <;> try simp_all)

theorem decidePad_withLinks (p : Port) (c : Byte) (a : Half) :
    decidePad p c a (s.withLinks x) = State.decidedWith x (decidePad p c a s) := by
  have f i b := State.foldl_withLinks s x (fun t j => t.requestPad j b) (fun _ _ => rfl) (s.members i)
  simp [decidePad, f]; repeat' (split <;> try simp_all)

theorem decideMode_withLinks (p : Port) (c : Byte) (a : Half) :
    decideMode p c a (s.withLinks x) = State.decidedWith x (decideMode p c a s) := by
  have f i m := State.foldl_withLinks s x (fun t j => t.requestMode j m) (fun _ _ => rfl) (s.members i)
  simp [decideMode, f]; repeat' (split <;> try simp_all)

theorem decidePhantom_withLinks (p : Port) (c : Byte) (a : Half) :
    decidePhantom p c a (s.withLinks x) = State.decidedWith x (decidePhantom p c a s) := by
  simp [decidePhantom]; repeat' (split <;> try simp_all)

theorem decideTrim_withLinks (p : Port) (c : Byte) (a : Half) :
    decideTrim p c a (s.withLinks x) = State.decidedWith x (decideTrim p c a s) := by
  have f i := State.foldl_withLinks s x (fun t j => t.writeTrim p (clampGain a.toInt) j) (fun _ _ => rfl) (s.members i)
  simp [decideTrim, f]; repeat' (split <;> try simp_all)

theorem decideMute_withLinks (p : Port) (c : Byte) (a : Half) :
    decideMute p c a (s.withLinks x) = State.decidedWith x (decideMute p c a s) := by
  have f i b := State.foldl_withLinks s x (fun t j => t.writeMute p b j) (fun _ _ => rfl) (s.members i)
  simp [decideMute, f]; repeat' (split <;> try simp_all)

theorem decideLink_withLinks (p : Port) (c : Byte) (a : Half) :
    decideLink p c a (s.withLinks x) = State.decidedWith x (decideLink p c a s) := by
  rcases e : pairTarget c with _ | k
  · simp [decideLink, e]
  rcases f : onOff a with _ | _ | _
  · simp [decideLink, e, f]
  · by_cases h : (s.holding (evenOf k)).holder ≠ some p ∧ (s.holding (evenOf k)).holder ≠ none <;>
      cases l : s.linked k <;> simp [decideLink, e, f, h, l]
  · by_cases h : (s.holding (evenOf k)).holder = some p <;> cases o : s.oddIsClear p k <;>
      cases l : s.linked k <;> simp [decideLink, e, f, h, o, l]

theorem decideSlot_withLinks (p : Port) (c : Byte) (a b : Half) :
    decideSlot p c a b (s.withLinks x) = State.decidedWith x (decideSlot p c a b s) := by
  simp [decideSlot]; repeat' (split <;> try simp_all)

theorem decideCommit_withLinks (p : Port) :
    decideCommit p (s.withLinks x) = State.decidedWith x (decideCommit p s) := by
  simp [decideCommit]; repeat' (split <;> try simp_all)

theorem decideRound_withLinks (p : Port) (a : Half) :
    decideRound p a (s.withLinks x) = State.decidedWith x (decideRound p a s) := by
  unfold decideRound; split <;> rfl

theorem decideWatch_withLinks (p : Port) (c : Byte) (a b : Half) :
    decideWatch p c a b (s.withLinks x) = State.decidedWith x (decideWatch p c a b s) := by
  unfold decideWatch; split <;> rfl

theorem decideWatchClear_withLinks (p : Port) (c : Byte) :
    decideWatchClear p c (s.withLinks x) = State.decidedWith x (decideWatchClear p c s) := by
  unfold decideWatchClear; split
  · rfl
  · split <;> rfl

theorem decideFactory_withLinks (p : Port) :
    decideFactory p (s.withLinks x) = State.decidedWith x (decideFactory p s) := by
  by_cases h : s.store.position = .run <;> simp [decideFactory, h]; rfl

theorem decideSetting_withLinks (h : ∀ p, (x.pick p).attach = (s.port p).attach) (c : Byte) (a : Half) :
    decideSetting c a (s.withLinks x) = State.decidedWith x (decideSetting c a s) := by
  have f (st : Store) := State.clockListWritten_withLinks { s with store := st } x h
  have g (st : Store) : { s.withLinks x with store := st } = State.withLinks { s with store := st } x := rfl
  simp [decideSetting]; repeat' (split <;> try simp_all)

/-- A request is decided alike whatever stands in the port links' queues, and leaves them alone. -/
theorem decideRequest_withLinks (h : ∀ p, (x.pick p).attach = (s.port p).attach) (p : Port) (r : Request) :
    decideRequest p r (s.withLinks x) = State.decidedWith x (decideRequest p r s) := by
  unfold decideRequest
  split <;> simp only [decideClaim_withLinks, decideYield_withLinks, decideGain_withLinks, decidePad_withLinks,
    decideMode_withLinks, decidePhantom_withLinks, decideTrim_withLinks, decideMute_withLinks, decideLink_withLinks,
    decideSlot_withLinks, decideCommit_withLinks, decideRound_withLinks, decideWatch_withLinks,
    decideWatchClear_withLinks, decideFactory_withLinks, decideSetting_withLinks s x h]

/-- A decision leaves the port links as they are. -/
theorem decideRequest_links (p : Port) (r : Request) : (decideRequest p r s).1.links = s.links := by
  have := decideRequest_withLinks s s.links (fun _ => rfl) p r
  rw [State.withLinks_self] at this
  rw [this]; rfl

/-- Taking a request changes the links by one response at the back of its own port's queue, and the rest of the state by
the owning block's decision (R150, R154). -/
theorem State.serve_withLinks (p : Port) (r : Request) :
    s.serve p r = (decideRequest p r s).1.withLinks (s.links.put p
      { s.port p with responses := (s.port p).responses ++ [(decideRequest p r s).2.toResponse r] }) := by
  simp only [State.serve, State.appendResponse, State.setPort, State.port, decideRequest_links]
  rfl

end Sys2Proof.Machine
end

