-- ==== Sys2Proof/WellFormed.lean ====
section
/-! DEFINITION. Which commands can be sent at all, whatever the state: every field of a command is of a type that admits
its legal values only, but for the two checked here. -/

namespace Sys2Proof

/-- The kind bytes of the sixteen known kinds, 0x01 to 0x10 (R154). -/
def isKnownKind (kind : Byte) : Bool := 1 ≤ kind.toNat && kind.toNat ≤ 16

/-- A command is well formed when an UNKNOWN request carries a kind outside 0x01 to 0x10 (R155), and a cycle start's
schedule names no port more often than the four places that the leaving responses free (R151). -/
def Instr.wellFormed : Instr → Bool
  | .unknown _ kind _ => !isKnownKind kind
  | .cycleStart schedule => (List.finRange 4).all fun p => schedule.count p ≤ 4
  | .claim _ _ | .yield _ _ | .gain _ _ _ | .pad _ _ _ | .mode _ _ _ | .phantom _ _ _ | .trim _ _ _ | .mute _ _ _
  | .link _ _ _ | .slot _ _ _ _ | .commit _ _ | .round _ _ _ | .watch _ _ _ _ | .watchClear _ _ | .setting _ _ _
  | .factory _ _ | .copyStart _ _ _ | .signalLoss _ _ _ | .headerArrival _ _ _ _ _ _ _ | .miss _ _ | .graceExpiry _
  | .cycleEnd _ | .modeTimerExpiry _ | .chargeTimerExpiry _ | .dischargeTimerExpiry _ | .lowSenseTimerExpiry _
  | .faultVoidTimerExpiry _ | .senseChange _ _ | .acquireTimerExpiry | .holdoverTimerExpiry | .quietTimerExpiry
  | .ceilingTimerExpiry | .frontEndWriteComplete | .settingsWriteComplete | .factoryWriteComplete
  | .setupSwitchTurn _ | .powerOn _ _ | .powerLoss => true

end Sys2Proof
end

