-- ==== Sys2Proof/Tests/Slice0.lean ====
section
/-! SUPPORT. Tests: the smoke of WellFormed; worked values of the manual, one step or one operation each, with the
section they are taken from; and for every statement with hypotheses a state and operands that meet them. -/

namespace Sys2Proof.Tests

set_option Elab.async false

open Sys2Proof.Machine Sys2Proof.Safety Sys2Proof.Claims

/-! ### WellFormed and Decode -/

theorem test_unknown_with_a_known_kind_is_ill_formed : Instr.wellFormed (.unknown 0 0x10 0) = false := by decide

theorem test_unknown_with_an_unknown_kind_is_well_formed : Instr.wellFormed (.unknown 0 0x11 0) = true := by decide

theorem test_five_takes_of_one_port_are_ill_formed : Instr.wellFormed (.cycleStart [1, 1, 1, 1, 1]) = false := by decide

theorem test_no_word_spells_a_command : decodeTableWord 8 1 = none := rfl

/-! ### States for the tests -/

/-- A lane that is UP. -/
def upLane : Lane :=
  { Lane.reset with state := .up, validCount := 4, previous := some 10, missTimer := some 49152 }

/-- An ATTACHED port with nothing queued. -/
def upPort : PortLink := { PortLink.reset with primary := upLane, attach := .attached }

/-- The reset state with every port ATTACHED. -/
def base : State := { State.reset with links := .fill fun _ => upPort }

/-- `base` with an input's holder and queue. -/
def held (i : InputNo) (h : Option Port) (queue : List Port) : State := base.setHolding i { holder := h, queue := queue }

/-- `base` with inputs 6 and 7 linked and held by port 1. -/
def pair67 : State :=
  ((base.setLinked 3 true).setHolding 6 { holder := some 1, queue := [] }).setHolding 7 { holder := some 1, queue := [] }

/-- `base` with the SETUP switch in SETUP. -/
def inSetup : State := { base with store := { base.store with position := .setup } }

/-- `base` with a port's primary lane replaced. -/
def withPrimary (p : Port) (x : Lane) : State := base.setPort p { base.port p with primary := x }

/-- `base` with a clock state. -/
def withClock (c : ClockState) : State := { base with clock := { base.clock with state := c } }

/-- A response. -/
def reply (kind target : Byte) (o : OutcomeCode) (position : Nat) (value : Int) : Response :=
  { kind := kind, target := target, outcome := o, position := position, value := value }

/-- The state a command leaves. -/
def after (c : Instr) (s : State) : State :=
  match exec c s with
  | .next t => t
  | .fault _ => s
  | .refused _ => s

/-- The responses of a port after a command. -/
def answers (c : Instr) (s : State) (p : Port) : List Response := ((after c s).port p).responses

/-! ### CRC, coefficients, conversions and operands -/

/-- The check value of the CRC over "123456789" (R140). -/
theorem test_crc_check_value :
    crc16 [0x31, 0x32, 0x33, 0x34, 0x35, 0x36, 0x37, 0x38, 0x39] = 0x29B1#16 := by decide +kernel

/-- The entries that section 5.2 lists. -/
theorem test_coefficients_of_the_manual :
    coefficient (-160) = 10486 ∧ coefficient (-24) = 525533 ∧ coefficient 0 = 1048576 ∧
    coefficient 24 = 2092184 ∧ coefficient 96 = 16618810 := by decide +kernel

/-- Every entry lies between the bounds of R85. -/
theorem test_coefficients_follow_their_law :
    ∀ k : Fin 257, (2 * coefficient ((k.val : Int) - 160) - 1) ^ 80 * 10 ^ 160 ≤ 2 ^ 1680 * 10 ^ k.val ∧
      2 ^ 1680 * 10 ^ k.val < (2 * coefficient ((k.val : Int) - 160) + 1) ^ 80 * 10 ^ 160 := by decide +kernel

/-- Section 5.10.1. -/
theorem test_fix_values_at_minus_24 :
    slotValue .fix24 .nearest 525533000000 = .fix24 501187 ∧ slotValue .fix24 .floor (-525533000000) = .fix24 (-501188) ∧
    slotValue .fix16 .nearest 525533000000 = .fix16 1958 ∧ slotValue .fix16 .towardZero (-525533000000) = .fix16 (-1957) ∧
    slotValue .fix16 .floor (-525533000000) = .fix16 (-1958) := by decide +kernel

/-- Section 5.10.2: saturation. -/
theorem test_fix_values_at_plus_24 :
    slotValue .fix24 .floor 12553104000000 = .fix24 8388607 ∧ saturates .fix24 .floor 12553104000000 = true ∧
    slotValue .fix16 .nearest 12553104000000 = .fix16 32767 ∧ saturates .flt32 .nearest 12553104000000 = false := by
  decide +kernel

/-- Section 5.10.3: ties and the limit at 0 qdB. -/
theorem test_fix16_ties :
    [384, -384, 640, -1, 8388480, -8388608].map (fun x : Int => slotValue .fix16 .nearest (x * 1048576)) =
      [.fix16 2, .fix16 (-2), .fix16 2, .fix16 0, .fix16 32767, .fix16 (-32768)] ∧
    [384, -384, 640, -1, 8388480, -8388608].map (fun x : Int => slotValue .fix16 .floor (x * 1048576)) =
      [.fix16 1, .fix16 (-2), .fix16 2, .fix16 (-1), .fix16 32767, .fix16 (-32768)] ∧
    saturates .fix16 .nearest (8388480 * 1048576) = true ∧ saturates .fix16 .floor (8388480 * 1048576) = false := by
  decide +kernel

/-- Sections 5.10.1 and 5.10.4: 16,037,994 x 2^-28 is exponent field 122; 10,486 x 2^-43 is exponent field 97;
-16,618,810 x 2^-20 is exponent field 130. -/
theorem test_flt32_values :
    flt32Bits 525533000000 = BitVec.ofNat 32 (122 * 2 ^ 23 + (16037994 - 2 ^ 23)) ∧
    flt32Bits 10486 = BitVec.ofNat 32 (97 * 2 ^ 23 + (10486 * 2 ^ 10 - 2 ^ 23)) ∧
    flt32Bits (-139408682516480) = BitVec.ofNat 32 (2 ^ 31 + 130 * 2 ^ 23 + (16618810 - 2 ^ 23)) ∧
    flt32Bits 0 = 0 := by decide +kernel

/-- Section 6.9: 24 FLT32 slots and 8 FIX24 slots need 7,680 bytes. -/
theorem test_payload :
    payload (.fill fun k => some { input := k, format := if k.val < 24 then .flt32 else .fix24 }) = 7680 := by
  decide +kernel

/-- Section 9.7: operand A 2,358 and 2,305, and the threshold levels at -24 and -160 qdB. -/
theorem test_watch_operands :
    writtenWatch 9 2358 (-24) =
      { Watch.reset with
        input := 9, mask := { less := false, equal := true, greater := true, void := false }
        latch := true, strict := true, threshold := -24, level := 4204264 } ∧
    watchInput 2305 = some 9 ∧ thresholdLevel (-160) = 83888 := by decide +kernel

/-- Section 10.2: lists and refused lists. -/
theorem test_clock_lists :
    clockListOperand 0x0123 = some [0, 1, 2, 3] ∧ clockListOperand 0x2FFF = some [2] ∧
    clockListOperand 0xFFFF = some [] ∧ clockListOperand 0x0023 = none ∧ clockListOperand 0x4FFF = none ∧
    clockListOperand 0x0F1F = none ∧ clockListValue [] = -1 ∧ clockListValue [0, 1, 2, 3] = 0x0123 := by
  decide +kernel

/-- Section 7.9: the mean of the eight intervals is 32,768.75 ticks. -/
theorem test_mean_of_the_first_lock :
    meanOf [32769, 32768, 32770, 32767, 32769, 32768, 32770, 32769] = 32768 + 3 / 4 := by decide +kernel

/-- Section 9.10: the digest of input 9 for port 2, byte by byte by the layout of 8.8.4. -/
theorem test_digest_bytes :
    Digest.bytes
        { input := 9, holder := some 1, queue := [2], linked := false, gainTarget := 40
          report := { InputReport.reset with gainActual := 38, modeInEffect := .line, lastPeak := some 61210 }
          record := { anchor := 36, trim := 0, mute := false, compLimited := false, applied := -8 }
          clip := false, void := false, ovl := false } =
      [9, 1, 2, 0xFF, 0xFF, 40, 38, 4, 0, 0, 0xEF, 0x1A, 0, 0, 36, 0xFF, 0xF8, 0] := by decide +kernel

/-- Section 9.10: the first bytes of the header. -/
theorem test_header_bytes :
    (Header.bytes
      { (State.reset.header 2 137 2) with
        clock := .locked 0, storeDirty := true, generation := 7, laneLastUsed := some .primary, primaryState := .up
        primaryStatus := { LaneStatus.clear with headerValid := true, copyTaken := true }
        holdings := .fill fun i => i == 6 || i == 7
        waiting := .fill fun i => i == 9
        watchWord := .fill fun w => w == 5 }).take 19 =
      [137, 0, 2, 0, 2, 0x46, 0, 0, 7, 0, 0, 0, 0xC0, 0, 0, 2, 0, 0x20, 0] := by decide +kernel

/-! ### Requests -/

/-- Section 2.12, steps 1 and 3. -/
theorem test_claim :
    answers (.claim 1 12) base 1 = [reply 1 12 .done 0 0] ∧
    answers (.claim 0 12) (held 12 (some 1) [3]) 0 = [reply 1 12 .queued 2 2] := by decide +kernel

/-- Section 2.13, step 1: the displaced holder stands at position 1. -/
theorem test_senior_claim :
    let s := held 20 (some 0) [1, 2]
    (after (.claim 2 20) { s with store := { s.store with settings := { s.store.settings with senior := some 2 } } }).holding 20
      = { holder := some 2, queue := [0, 1] } := by decide +kernel

/-- Section 2.12, steps 7 and 9. -/
theorem test_yield :
    (after (.yield 1 12) (held 12 (some 1) [3, 0])).holding 12 = { holder := some 3, queue := [0] } ∧
    (after (.yield 0 12) (held 12 (some 3) [0, 2])).holding 12 = { holder := some 3, queue := [2] } := by decide +kernel

/-- Section 3.5: the grant re-bases port 2's record to trim 48 with anchor 18. -/
theorem test_grant_rebases :
    let s := (base.setInput 7 { base.input 7 with effective := 18 }).setRecord 2 7
      { anchor := 30, trim := 0, mute := false, compLimited := false, applied := 48 }
    (after (.claim 2 7) s).record 2 7 = { anchor := 18, trim := 48, mute := false, compLimited := false, applied := 48 } := by
  decide +kernel

/-- Section 2.12, steps 5 and 6. -/
theorem test_gain :
    ((after (.gain 1 12 40) (held 12 (some 1) [3, 0])).input 12).gainTarget = 40 ∧
    answers (.gain 3 12 35) (held 12 (some 1) [3, 0]) 3 = [reply 3 12 .notHolder 0 20] := by decide +kernel

/-- A gain above 60 is clamped (R14). -/
theorem test_gain_is_clamped : answers (.gain 1 12 61) (held 12 (some 1) []) 1 = [reply 3 12 .clamped 0 60] := by
  decide +kernel

theorem test_pad : ((after (.pad 1 7 1) (held 7 (some 1) [])).input 7).padRequested = true := by decide +kernel

theorem test_pad_reaches_both_members : ((after (.pad 1 6 1) pair67).input 7).padRequested = true := by decide +kernel

theorem test_mode : ((after (.mode 1 7 1) (held 7 (some 1) [])).input 7).modeRequested = .line := by decide +kernel

theorem test_phantom :
    (after (.phantom 0 2 1) base).group 2 = { PhantomGroup.reset with state := .charging, chargeTimer := some (600 * 24576) } := by
  decide +kernel

theorem test_phantom_contested : answers (.phantom 0 1 1) (held 7 (some 1) []) 0 = [reply 6 1 .contested 0 0] := by
  decide +kernel

theorem test_trim : answers (.trim 0 3 (-200)) base 0 = [reply 7 3 .clamped 0 (-160)] := by decide +kernel

theorem test_mute : ((after (.mute 0 3 1) base).record 0 3).mute = true := by decide +kernel

theorem test_link : (after (.link 1 3 1) (held 6 (some 1) [])).holding 7 = { holder := some 1, queue := [] } := by
  decide +kernel

theorem test_unlink : (after (.link 1 3 0) pair67).linked 3 = false := by decide +kernel

/-- R107: a value field of 30 reports input 7 in FLT32. -/
theorem test_slot : answers (.slot 2 5 7 2) base 2 = [reply 10 5 .done 0 30] := by decide +kernel

theorem test_commit : ((after (.commit 2 0) base).mapsOf 2).commitPending = true := by decide +kernel

theorem test_round : (after (.round 2 0 2) base).level.requested.pick 2 = .floor := by decide +kernel

theorem test_watch : answers (.watch 3 2 2358 (-24)) base 3 = [reply 13 2 .done 0 (-24)] := by decide +kernel

theorem test_watch_clear_all : answers (.watchClear 3 255) base 3 = [reply 14 255 .done 0 0] := by decide +kernel

theorem test_setting : (after (.setting 0 2 16) inSetup).store.settings.window = 16 := by decide +kernel

theorem test_setting_in_run : answers (.setting 0 2 16) base 0 = [reply 15 2 .setupOnly 0 4] := by decide +kernel

theorem test_factory : (after (.factory 2 0) inSetup).store.factoryPort = some 2 := by decide +kernel

theorem test_unknown : answers (.unknown 2 0x11 9) base 2 = [reply 0x11 9 .unknown 0 0] := by decide +kernel

/-! ### Links -/

/-- The header of count 11 with no requests, as its four bytes. -/
def header11 : Byte × Byte := ((crc16 [11, 0]).extractLsb' 8 8, (crc16 [11, 0]).extractLsb' 0 8)

/-- A lane whose copy awaits its header. -/
def awaiting (x : Lane) : Lane := { x with copy := some { header := none } }

/-- A SYNCING lane one header short of UP. -/
def almostUp : Lane := awaiting { upLane with state := .syncing, validCount := 3 }

theorem test_copy_start : ((after (.copyStart 0 .primary []) base).port 0).primary.copy = some { header := none } := by
  decide +kernel

theorem test_signal_loss :
    ((after (.signalLoss 0 .primary []) (withPrimary 0 (awaiting upLane))).port 0).primary.copy = none := by
  decide +kernel

theorem test_header_brings_the_lane_up :
    let s := (withPrimary 0 almostUp).setPort 0 { (withPrimary 0 almostUp).port 0 with attach := .absent }
    ((after (.headerArrival 0 .primary 11 0 header11.1 header11.2 0) s).port 0).attach = .attached := by decide +kernel

/-- Section 8.5.1: an ATTACHED port in the list is acquired. -/
theorem test_attach_acquires :
    let s := (withPrimary 0 almostUp).setPort 0 { (withPrimary 0 almostUp).port 0 with attach := .absent }
    (after (.headerArrival 0 .primary 11 0 header11.1 header11.2 0) s).clock.state = .acquire 0 := by decide +kernel

theorem test_miss : ((after (.miss 0 .primary) base).port 0).primary.missCount = 1 := by decide +kernel

theorem test_third_miss_detaches :
    ((after (.miss 0 .primary) (withPrimary 0 { upLane with missCount := 2 })).port 0).attach = .detached := by
  decide +kernel

/-- A DETACHED port that holds input 4, with port 2 waiting. -/
def graced : State :=
  (held 4 (some 1) [2]).setPort 1 { PortLink.reset with attach := .detached, graceTimer := some 1 }

theorem test_grace_expiry : (after (.graceExpiry 1) graced).holding 4 = { holder := some 2, queue := [] } := by
  decide +kernel

/-! ### Cycles -/

/-- Section 1.10: the move and the pad take effect at one cycle start; E falls by 21 dB. -/
theorem test_cycle_start :
    let s := base.setInput 7 { base.input 7 with gainTarget := 18, gainActual := 30, effective := 30, padRequested := true }
    ((after (.cycleStart []) s).input 7).effective = 9 ∧ ((after (.cycleStart []) s).input 7).settle = 3 ∧
    (after (.cycleStart []) s).cycleCount = some 0 := by
  decide +kernel

/-- `base` after the end of a full-scale cycle at +24 qdB that a port's draft carries in FIX24, with the CLIP sticky of
the port and input 0 clear before it and `clip` since. -/
def boundary (commitPending clip : Bool) : State :=
  { base with
    arbiter := { base.arbiter with handed := .fill fun _ => .fill fun _ => { CompRecord.reset with applied := 24 } }
    level := { base.level with
      samples := .fill fun _ => .fill fun _ => 0x7FFFFF
      clip := .fill fun _ => .fill fun _ => clip
      clipBefore := some (.fill fun _ => .fill fun _ => false) }
    maps := .fill fun _ => { PortMaps.reset with
      draft := .fill fun k => if k = 0 then some { input := 0, format := .fix24 } else none
      commitPending := commitPending } }

/-- R97, R111, R115, R118: the digest of downlink n+1 reports CLIP by the map of downlink n+1, for a COMMIT and for a
cancelled commit between the end of cycle n and the start of cycle n+1. -/
theorem test_clip_follows_the_map_of_the_downlink :
    ((after (.cycleStart []) (boundary true false)).port 2).downlink.map (·.digest.clip) = some true ∧
    ((after (.cycleStart []) (boundary false true)).port 2).downlink.map (·.digest.clip) = some false := by
  decide +kernel

theorem test_cycle_end :
    let samples : CycleSamples := .fill fun i => .fill fun k => if i = 9 ∧ k = 63 then 0x800000 else 5
    ((after (.cycleEnd samples) base).input 9).lastPeak = some 8388608 ∧
    ((after (.cycleEnd samples) base).frontEnd.ovl.pick 3).pick 9 = true := by decide +kernel

/-! ### Timers, switch and power -/

theorem test_mode_timer_expiry :
    ((after (.modeTimerExpiry 3) (base.setInput 3 { base.input 3 with modeTimer := some 9 })).input 3).modeTimer = none := by
  decide +kernel

/-- A group in a state with its timers running. -/
def grouped (x : PhantomState) : State :=
  base.setGroup 1
    { state := x, sense := .low
      chargeTimer := some 1, dischargeTimer := some 1, lowSenseTimer := some 1, faultVoidTimer := some 1 }

theorem test_group_timers :
    ((after (.chargeTimerExpiry 1) (grouped .charging)).group 1).state = .fault ∧
    ((after (.dischargeTimerExpiry 1) (grouped .discharging)).group 1).state = .off ∧
    ((after (.lowSenseTimerExpiry 1) (grouped .on)).group 1).state = .fault ∧
    ((after (.faultVoidTimerExpiry 1) (grouped .off)).group 1).faultVoidTimer = none := by decide +kernel

theorem test_sense_change : ((after (.senseChange 1 .ok) (grouped .on)).group 1).lowSenseTimer = none := by
  decide +kernel

/-- Section 7.11: the refused reference is passed over for the next of the list. -/
theorem test_acquire_timer_expiry :
    (after .acquireTimerExpiry (withClock (.acquire 0))).clock.state = .acquire 1 ∧
    (after .acquireTimerExpiry (withClock (.acquire 0))).clock.refused = [0] := by decide +kernel

theorem test_holdover_timer_expiry :
    (after .holdoverTimerExpiry (withClock (.holdover 0))).clock.state = .acquire 1 := by decide +kernel

/-- A store with an unwritten change. -/
def dirtyStore : State :=
  { base with store := { base.store with dirty := true, quietTimer := some 1, ceilingTimer := some 1 } }

/-- A store with both writes running and a change during each. -/
def writing : State :=
  { base with store := { base.store with
      dirty := true
      settingsWrite := some { record := Settings.defaults, again := true }
      frontEndWrite := some { record := StoredFrontEnd.defaults, changed := true } } }

theorem test_quiet_and_ceiling :
    (after .quietTimerExpiry dirtyStore).store.ceilingTimer = none ∧
    (after .ceilingTimerExpiry dirtyStore).store.frontEndWrite.isSome = true := by decide +kernel

theorem test_writes_complete :
    (after .frontEndWriteComplete writing).store.dirty = true ∧
    (after .settingsWriteComplete writing).store.settingsWrite.isSome = true := by decide +kernel

theorem test_factory_write_complete :
    (after .factoryWriteComplete { base with phase := .restartSettings }).phase = .restartFrontEnd := by decide +kernel

theorem test_setup_switch_turn : (after (.setupSwitchTurn .setup) base).store.position = .setup := by decide +kernel

/-- Power-on of a part with default records in storage is the reset state. -/
theorem test_power_on : after (.powerOn true true) State.reset = State.reset := by decide +kernel

theorem test_power_on_falls_back :
    (after (.powerOn false true) { base with store := { base.store with
      settingsCopy := { record := { Settings.defaults with rate := .khz96 }, sound := true } } }).clock.rate = .khz48 := by
  decide +kernel

theorem test_power_loss : (after .powerLoss base).phase = .off := by decide +kernel

/-! ### The hypotheses of the statements can be met

Each theorem is named for its statement in Certificates/Slice0/Obligations.lean and gives, clause by clause, a state and
operands that meet the hypotheses, at boundary values where a range is named. -/

/-- `base` with a request waiting behind a full response queue at port 0. -/
def full (requests : List Request) : State :=
  base.setPort 0 { upPort with requests := requests, responses := List.replicate 8 (reply 16 0 .done 0 0) }

/-- A TRIM request. -/
def trimRequest : Request := { kind := 7, target := 31, a := 0, b := 0 }

theorem witness_StepRunsTheFrontCommand : State.reset.pending = [] := by decide

theorem witness_ClaimOnAFreeUnitGrantsIt :
    ready base 3 ∧ isUnit base 31 ∧ (base.holding 31).holder = none ∧ (base.holding 31).queue = [] := by decide +kernel

theorem witness_ClaimOnAHeldUnitQueuesOrIsAlready :
    ready (held 0 (some 1) [2]) 1 ∧ isUnit (held 0 (some 1) [2]) 0 ∧ heldBy (held 0 (some 1) [2]) 0 1 ∧
    (held 0 (some 1) [2]).store.settings.senior ≠ some 2 ∧ 2 ∈ ((held 0 (some 1) [2]).holding 0).queue ∧
    0 ∉ ((held 0 (some 1) [2]).holding 0).queue := by decide +kernel

/-- The witness of the senior claim: port 3 is senior and waits at position 1. -/
def senior3 : State :=
  { held 0 (some 1) [3] with store := { base.store with settings := { base.store.settings with senior := some 3 } } }

theorem witness_SeniorClaimDisplacesTheHolder :
    ready senior3 3 ∧ isUnit senior3 0 ∧ heldBy senior3 0 1 ∧ senior3.store.settings.senior = some 3 := by decide +kernel

theorem witness_YieldByTheHolderPassesTheUnitOn :
    ready pair67 1 ∧ isUnit pair67 6 ∧ heldBy pair67 6 1 ∧ 1 ∉ (pair67.holding 6).queue := by decide +kernel

theorem witness_YieldByAnotherPortWithdrawsOrIsRefused :
    ready (held 0 (some 1) [2, 3, 0]) 3 ∧ isUnit (held 0 (some 1) [2, 3, 0]) 0 ∧
    ¬ heldBy (held 0 (some 1) [2, 3, 0]) 0 3 ∧ ((held 0 (some 1) [2, 3, 0]).holding 0).queue = [2] ++ 3 :: [0] ∧
    ¬ heldBy base 0 3 ∧ 3 ∉ (base.holding 0).queue := by decide +kernel

theorem witness_TargetsOutOfRangeAreRefused :
    ready base 0 ∧ 32 ≤ (32 : Byte).toNat ∧ 8 ≤ (8 : Byte).toNat ∧ 16 ≤ (16 : Byte).toNat ∧ 8 ≤ (254 : Byte).toNat ∧
    (254 : Byte).toNat ≤ 254 ∧ 4 ≤ (4 : Byte).toNat := by decide +kernel

theorem witness_TheOddMemberOfALinkedPairIsRefused : ready pair67 0 ∧ pair67.linked 3 = true := by decide +kernel

theorem witness_AnalogRequestsNeedTheHolder :
    ready base 0 ∧ isUnit base 31 ∧ ¬ heldBy base 31 0 ∧ (2 : Half).toInt ≠ 0 ∧ (2 : Half).toInt ≠ 1 ∧
    (-1 : Half).toInt ≠ 0 ∧ (-1 : Half).toInt ≠ 1 ∧ (1 : Half).toInt = 1 := by decide +kernel

theorem witness_GainSetsTheTargetOfEveryMember : ready pair67 1 ∧ isUnit pair67 6 ∧ heldBy pair67 6 1 := by
  decide +kernel

theorem witness_PadAndModeSetTheRequestedValues :
    ready (held 31 (some 1) []) 1 ∧ isUnit (held 31 (some 1) []) 31 ∧ heldBy (held 31 (some 1) []) 31 1 := by
  decide +kernel

theorem witness_PhantomFollowsTheGroupTable :
    ready (held 31 (some 1) []) 0 ∧ (∃ j h, groupOf j = 7 ∧ ((held 31 (some 1) []).holding j).holder = some h ∧ h ≠ 0) ∧
    (¬ ∃ j h, groupOf j = 0 ∧ ((held 31 (some 1) []).holding j).holder = some h ∧ h ≠ 0) := by decide +kernel

theorem witness_TrimWritesThePortsOwnRecords : ready pair67 2 ∧ isUnit pair67 6 ∧ isUnit pair67 31 := by decide +kernel

theorem witness_MuteWritesThePortsOwnRecords :
    ready pair67 2 ∧ isUnit pair67 6 ∧ (0 : Half).toInt = 0 ∧ (1 : Half).toInt = 1 ∧ (2 : Half).toInt ≠ 1 := by
  decide +kernel

theorem witness_LinkIsCheckedInOrder :
    ready pair67 0 ∧ (pair67.holding (evenOf 3)).holder ≠ some 0 ∧ (pair67.holding (evenOf 3)).holder ≠ none ∧
    (pair67.holding (evenOf 3)).holder = some 1 ∧ oddClear pair67 1 3 ∧ pair67.linked 3 = true ∧
    ¬ oddClear (held 7 (some 2) []) 1 3 ∧ (base.holding (evenOf 15)).holder = none ∧ base.linked 15 = false := by
  decide +kernel

theorem witness_LinkOnConformsTheOddMember :
    ready (held 30 (some 1) []) 1 ∧ (held 30 (some 1) []).linked 15 = false ∧
    heldBy (held 30 (some 1) []) (evenOf 15) 1 ∧ oddClear (held 30 (some 1) []) 1 15 := by decide +kernel

theorem witness_LinkOffMakesTwoUnits :
    ready pair67 1 ∧ pair67.linked 3 = true ∧ (pair67.holding (evenOf 3)).holder = some 1 := by decide +kernel

/-- `base` with a commit pending at port 0. -/
def committing : State := base.setMaps 0 { base.mapsOf 0 with commitPending := true }

theorem witness_SlotIsCheckedAndWritesTheDraft :
    ready committing 0 ∧ (committing.mapsOf 0).commitPending = true ∧ ready base 0 ∧
    (base.mapsOf 0).commitPending = false ∧ (-2 : Half).toInt ≠ -1 ∧ (-2 : Half).toInt < 0 ∧ 31 < (32 : Half).toInt ∧
    (3 : Half).toInt ∉ [0, 1, 2] ∧ entryOf (-1) 3 = some none ∧
    entryOf 31 2 = some (some { input := 31, format := .flt32 }) := by decide +kernel

/-- `base` with a draft of `n` FLT32 slots at port 0. -/
def drafted (n : Nat) : State :=
  base.setMaps 0 { base.mapsOf 0 with
    draft := .fill fun k => if k.val < n then some { input := k, format := .flt32 } else none }

/-- 28 FLT32 slots need exactly 7,168 bytes, and 29 need 7,424. -/
theorem witness_CommitIsDecidedByThePayload :
    ready committing 0 ∧ (committing.mapsOf 0).commitPending = true ∧ ready (drafted 28) 0 ∧ ready (drafted 29) 0 ∧
    ((drafted 28).mapsOf 0).commitPending = false ∧ ((drafted 29).mapsOf 0).commitPending = false ∧
    payload ((drafted 28).mapsOf 0).draft = 7168 ∧ payload ((drafted 29).mapsOf 0).draft = 7424 := by decide +kernel

theorem witness_RoundSetsTheModeRequested :
    ready base 0 ∧ (3 : Half).toInt ∉ [0, 1, 2] ∧ (-1 : Half).toInt ∉ [0, 1, 2] ∧ roundCode .floor = (2 : Half).toInt ∧
    roundCode .nearest = (0 : Half).toInt := by decide +kernel

theorem witness_WatchWritesEveryField :
    ready base 0 ∧ 31 < (0x2000 : Half).toNat / 256 ∧ (0x1F3F : Half).toNat / 256 = (31 : InputNo).val := by
  decide +kernel

theorem witness_WatchClearClearsTheBits : ready base 0 ∧ (7 : Byte).toNat < 8 ∧ (255 : Byte) = 255 := by decide +kernel

theorem witness_SettingReplacesTheStoredValue :
    ready base 0 ∧ base.store.position = .run ∧ ready inSetup 0 ∧ inSetup.store.position = .setup ∧
    settingOf inSetup.store.settings 0 2 = none ∧ (settingOf inSetup.store.settings 2 16).isSome = true ∧
    (settingOf inSetup.store.settings 3 (-1)).isSome = true := by decide +kernel

/-- The shortest and the longest list, and an operand that is no list: a nibble of 4. -/
theorem witness_ClockListWriteActsOnTheClock :
    ready base 0 ∧ base.store.position = .run ∧ ready inSetup 0 ∧ inSetup.store.position = .setup ∧
    inSetup.store.settings.clockList.Nodup ∧ ([] : List Port).Nodup ∧ ([3, 1, 2, 0] : List Port).Nodup ∧
    nibblesOf 0xFFFF = listNibbles [] ∧ nibblesOf 0x3120 = listNibbles [3, 1, 2, 0] ∧
    ¬ ∃ l : List Port, l.Nodup ∧ nibblesOf 0x4FFF = listNibbles l := by
  refine ⟨by decide +kernel, by decide +kernel, by decide +kernel, by decide +kernel, by decide +kernel,
    by decide, by decide, by decide +kernel, by decide +kernel, ?_⟩
  rintro ⟨l, -, h⟩
  cases l with
  | nil => exact absurd h (by decide)
  | cons x l =>
    have : (4 : Nat) = x.val := by simpa [nibblesOf, listNibbles] using congrArg List.head? h
    omega

theorem witness_FactoryIsAcceptedInSetup :
    ready base 0 ∧ base.store.position = .run ∧ ready inSetup 0 ∧ inSetup.store.position = .setup := by decide +kernel

theorem witness_UnknownKindsAreAnswered : ready base 0 ∧ (0 : Byte).toNat = 0 ∧ 16 < (17 : Byte).toNat := by
  decide +kernel

theorem witness_ARequestWaitsOrOverruns :
    (full []).phase = .running ∧ ((full []).port 0).attach ≠ .absent ∧ ((full []).port 0).responses.length = 8 ∧
    ((full (List.replicate 7 trimRequest)).port 0).requests.length < 8 ∧
    8 ≤ ((full (List.replicate 8 trimRequest)).port 0).requests.length ∧
    plainFrame trimRequest ∧ plainFrame { kind := 0, target := 255, a := 0, b := 0 } ∧
    plainFrame { kind := 10, target := 31, a := -1, b := 2 } ∧ plainFrame { kind := 16, target := 0, a := 0, b := 0 } := by
  decide +kernel

theorem witness_RequestFramesReadBack : (0 : BitVec 16) ≠ crc16 ((frameBytes trimRequest).take 6) := by decide +kernel

theorem witness_CopyStartEndsTheCopyAndBeginsOne : base.phase = .running ∧ (laneAt base 0 .primary).copy = none := by
  decide +kernel

/-- A valid header that asks for `n` requests. -/
def arrived (n : Nat) : ArrivedHeader :=
  { count := 11, requests := BitVec.ofNat 8 n, valid := true, countError := false }

/-- Port 0's primary lane UP with a copy whose header is `h`. -/
def copying (h : ArrivedHeader) : State := withPrimary 0 { upLane with copy := some { header := some h } }

/-- A copy of five frames, and one whose count was taken before, are not taken; a copy may have no header. -/
theorem witness_AnUntakenCopyOnlyRewritesTheStatus :
    (copying (arrived 5)).phase = .running ∧
    (laneAt (copying (arrived 5)) 0 .primary).copy = some { header := some (arrived 5) } ∧
    lengthWrong (arrived 5) [] ∧ ¬ countTakes 11 (some 11) ∧ ¬ countTakes 11 (some 139) ∧
    (laneAt (withPrimary 0 (awaiting upLane)) 0 .primary).copy = some { header := none } := by
  refine ⟨by decide +kernel, by decide +kernel, by decide +kernel, ?_, ?_, by decide +kernel⟩ <;>
    simp only [countTakes] <;> decide

theorem witness_ATakenCopyActsAsItsRequests :
    (copying (arrived 1)).phase = .running ∧ ((copying (arrived 1)).port 0).attach ≠ .absent ∧
    (arrived 1).requests.toNat = [trimRequest].length ∧
    (laneAt (copying (arrived 1)) 0 .primary).copy = some { header := some (arrived 1) } ∧
    isTaken (copying (arrived 1)) 0 .primary (arrived 1) (([trimRequest].map frameBytes).flatten) ∧
    plainFrame trimRequest ∧ ready (copying (arrived 1)) 0 ∧ countTakes 11 (some 10) ∧ countTakes 11 (some 140) := by
  refine ⟨by decide +kernel, by decide +kernel, by decide +kernel, by decide +kernel,
    ⟨by decide +kernel, by decide +kernel, by decide +kernel, by decide +kernel, trivial⟩,
    by decide +kernel, by decide +kernel, ?_, ?_⟩ <;> simp only [countTakes] <;> decide

/-- The header of count 11 checks against any four bytes that carry its CRC, and not against others. -/
theorem witness_HeadersAreJudgedAndCountTheLaneUp :
    let s := withPrimary 0 (awaiting Lane.reset)
    let t := withPrimary 0 (awaiting { upLane with state := .syncing, validCount := 2 })
    s.phase = .running ∧ (laneAt s 0 .primary).copy = some { header := none } ∧
    headerChecks 11 0 header11.1 header11.2 ∧ ¬ headerChecks 12 0 header11.1 header11.2 ∧
    (laneAt s 0 .primary).state = .down ∧ (laneAt t 0 .primary).copy = some { header := none } ∧
    (laneAt t 0 .primary).state = .syncing ∧ (laneAt t 0 .primary).validCount < 3 := by decide +kernel

theorem witness_TheFourthValidHeaderBringsTheLaneUp :
    (withPrimary 0 almostUp).phase = .running ∧
    (laneAt (withPrimary 0 almostUp) 0 .primary).copy = some { header := none } ∧
    headerChecks 11 0 header11.1 header11.2 ∧ (laneAt (withPrimary 0 almostUp) 0 .primary).state = .syncing ∧
    (laneAt (withPrimary 0 almostUp) 0 .primary).validCount = 3 := by decide +kernel

theorem witness_AHeaderOfTheReferenceLaneIsMeasured :
    (withPrimary 0 (awaiting upLane)).phase = .running ∧
    (laneAt (withPrimary 0 (awaiting upLane)) 0 .primary).copy = some { header := none } ∧
    headerChecks 11 0 header11.1 header11.2 ∧ (laneAt (withPrimary 0 (awaiting upLane)) 0 .primary).state = .up ∧
    wouldBeReference (withClock (.locked 0)) 0 .primary := by decide +kernel

/-- `base` with both lanes of port 0 UP, the primary one miss short of DOWN. -/
def bothUp : State := base.setPort 0 { upPort with primary := { upLane with missCount := 2 }, secondary := upLane }

theorem witness_AMissCountsOrTakesTheLaneDown :
    bothUp.phase = .running ∧ (laneAt bothUp 0 .primary).missTimer ≠ none ∧ (laneAt bothUp 0 .primary).state = .up ∧
    (laneAt bothUp 0 .primary).missCount = 2 ∧ (bothUp.port 0).secondary.state = .up ∧
    (laneAt bothUp 0 .secondary).missCount < 2 ∧ (laneAt (withPrimary 0 almostUp) 0 .primary).state = .syncing := by
  decide +kernel

theorem witness_TheLastLaneDownDetachesThePort :
    let s := withPrimary 0 { upLane with missCount := 2 }
    s.phase = .running ∧ (laneAt s 0 .primary).missTimer ≠ none ∧ (laneAt s 0 .primary).state = .up ∧
    (laneAt s 0 .primary).missCount = 2 ∧ (s.port 0).attach = .attached ∧ (s.port 0).secondary.state ≠ .up := by
  decide +kernel

theorem witness_GraceExpiryLosesThePort :
    graced.phase = .running ∧ (graced.port 1).attach = .detached ∧ (graced.port 1).graceTimer ≠ none ∧
    graced.store.factoryPort ≠ some 1 ∧ graced.clock.state ≠ .acquire 1 ∧ graced.clock.state ≠ .locked 1 ∧
    holdingsOk graced := by decide +kernel

/-- For the four statements on a cycle start that takes no request. -/
theorem witness_quietStart : quietStart base ∧ reported base 0 := by decide +kernel

theorem witness_Flt32ValuesAreNearest :
    |((8388607 : Int) * 16618810)| ≤ 8388608 * 16618810 ∧ (8388607 : Int) * 16618810 ≠ 0 := by decide +kernel

/-- For the two statements on a cycle end: the part runs, input 0 is valid and input 1 is void. -/
theorem witness_cycleEnd :
    let s := base.setInput 1 { base.input 1 with causes := { VoidCauses.none with settle := true } }
    s.phase = .running ∧ isVoid (s.input 0).causes = false ∧ isVoid (s.input 1).causes = true := by decide +kernel

theorem witness_FrontEndTimersAndSense :
    ((grouped .charging).group 1).chargeTimer ≠ none ∧ ((grouped .charging).group 1).sense = .low ∧
    ((grouped .discharging).group 1).dischargeTimer ≠ none ∧ ((grouped .on).group 1).lowSenseTimer ≠ none ∧
    ((grouped .on).group 1).sense ≠ .ok ∧
    (((grouped .charging).setGroup 1 { (grouped .charging).group 1 with sense := .ok }).group 1).sense = .ok := by
  decide +kernel

theorem witness_AcquireAndHoldoverExpire :
    (withClock (.acquire 3)).phase = .running ∧ (withClock (.acquire 3)).clock.state = .acquire 3 ∧
    (withClock (.holdover 0)).clock.state = .holdover 0 := by decide +kernel

theorem witness_WritesBeginAndComplete :
    dirtyStore.phase = .running ∧ dirtyStore.store.frontEndWrite = none ∧ dirtyStore.store.quietTimer ≠ none ∧
    dirtyStore.store.ceilingTimer ≠ none ∧ writing.store.frontEndWrite ≠ none ∧
    writing.store.settingsWrite ≠ none := by decide +kernel

/-- `base` with an accepted FACTORY of port 0, its response first to leave. -/
def factoryAccepted : State :=
  { base.setPort 0 { upPort with responses := [reply 16 0 .done 0 0] } with
    store := { base.store with factoryPort := some 0 } }

/-- `graced` with an accepted FACTORY of port 1. -/
def factoryGraced : State := { graced with store := { graced.store with factoryPort := some 1 } }

/-- A request that waits, with none waiting at an ABSENT port; and cycle starts at which the accepted FACTORY's response
leaves, and at which none does. -/
theorem witness_ResponsesLeaveAndRequestsAreTaken :
    (full [trimRequest]).phase = .running ∧ takenCount ((full [trimRequest]).port 0) = 1 ∧
    (∀ p, ((full [trimRequest]).port p).attach = .absent → ((full [trimRequest]).port p).requests = []) ∧
    inOrder [0, 0] (fun p => ((full [trimRequest]).port p).requests) = [.trim 0 31 0] ∧
    factoryLeft factoryAccepted (broughtIn factoryAccepted) ∧ ¬ factoryLeft base (broughtIn base) := by
  decide +kernel

/-- A phase of the restart, with the two writes in flight or not. -/
def restarting (x : Phase) (settings frontEnd : Bool) : State :=
  { base with phase := x, store := { base.store with
    settingsWrite := if settings then some { record := Settings.defaults, again := false } else none
    frontEndWrite := if frontEnd then some { record := StoredFrontEnd.defaults, changed := false } else none } }

theorem witness_FactoryRestartsFromTheDefaults :
    (factoryAccepted.phase = .running ∧ factoryAccepted.store.factoryPort = some 0 ∧
      (∀ q, (factoryAccepted.port q).requests = []) ∧
      ∃ r ∈ (factoryAccepted.port 0).responses.take 4, r.kind = 16 ∧ r.outcome = .done) ∧
    (factoryGraced.store.factoryPort = some 1 ∧ (factoryGraced.port 1).attach = .detached ∧
      (factoryGraced.port 1).graceTimer ≠ none) ∧
    ((restarting .restartWaits true true).store.settingsWrite ≠ none ∧
      (restarting .restartWaits true true).store.frontEndWrite ≠ none) ∧
    ((restarting .restartWaits true false).store.settingsWrite ≠ none ∧
      (restarting .restartWaits true false).store.frontEndWrite = none) ∧
    ((restarting .restartWaits false true).store.frontEndWrite ≠ none ∧
      (restarting .restartWaits false true).store.settingsWrite = none) ∧
    ((restarting .restartFrontEnd false false).store.frontEnd = defaultFrontEnd ∧
      (restarting .restartFrontEnd false false).store.settingsCopy = { record := defaultSettings, sound := true }) := by
  decide +kernel

/-- A state in the middle of a run: the reset state one cycle on, with a turn of the key switch waiting. -/
def running : State := { State.reset with cycleCount := some 0, pending := [.setupSwitchTurn .setup] }

/-- For the four statements on steps: a state that meets the whole invariant, and the state its step answers. -/
theorem witness_StepsKeep :
    Safety.invariant running ∧
    step running = .next { running with pending := [], store := { running.store with position := .setup } } := by
  refine ⟨⟨⟨by decide +kernel, by decide +kernel, by decide +kernel, by simp [running, State.reset, Store.reset]⟩,
    by decide +kernel, by decide +kernel, by decide +kernel, by decide +kernel, by decide +kernel, by decide +kernel,
    by decide +kernel, ?_, ?_, by decide +kernel, ?_⟩, rfl⟩
  · intro p
    have : running.port p = PortLink.reset := by revert p; decide +kernel
    rw [this]
    simp [laneOk, PortLink.reset, Lane.reset]
  · refine ⟨fun _ => ?_, by decide +kernel, by decide +kernel, by decide +kernel, by decide +kernel, by decide +kernel,
      by decide +kernel, by decide +kernel, by decide +kernel, by simp [running, State.reset, Store.reset]⟩
    show (∀ p, ¬ isCandidate running p) ∧ _
    exact ⟨by decide +kernel, by decide +kernel, by decide +kernel, rfl, rfl⟩
  · intro _
    exact ⟨by decide +kernel, by decide +kernel, by simp [running, State.reset, Store.reset]⟩

end Sys2Proof.Tests
end

section
/-! SUPPORT. Holding units (chapter 2): what a release, a grant and the changes built from them leave in the holdings
and in the records, and the frame of each. -/

namespace Sys2Proof.Machine

/-! ### Changes of holdings and records only -/

/-- `t` differs from `s` at most in the arbiter's holdings and records. -/
def SameButHands (s t : State) : Prop :=
  { t with arbiter := { t.arbiter with holdings := s.arbiter.holdings, records := s.arbiter.records } } = s

namespace SameButHands

variable {s t u : State}

theorem refl (s : State) : SameButHands s s := rfl

theorem trans (h : SameButHands s t) (h' : SameButHands t u) : SameButHands s u := by
  have := congrArg (fun x : State => { x with
    arbiter := { x.arbiter with holdings := s.arbiter.holdings, records := s.arbiter.records } }) h'
  exact this.trans h

theorem frame (h : SameButHands s t) : { t with arbiter := s.arbiter, links := s.links } = s :=
  congrArg (fun x : State => { x with arbiter := s.arbiter, links := s.links }) h

theorem linkedVec (h : SameButHands s t) : t.arbiter.linked = s.arbiter.linked := congrArg (·.arbiter.linked) h

theorem handed (h : SameButHands s t) : t.arbiter.handed = s.arbiter.handed := congrArg (·.arbiter.handed) h

theorem linked (h : SameButHands s t) (k : PairNo) : t.linked k = s.linked k := congrArg (·.linked k) h

theorem isLinkedOdd (h : SameButHands s t) (i : InputNo) : t.isLinkedOdd i = s.isLinkedOdd i :=
  congrArg (·.isLinkedOdd i) h

theorem members (h : SameButHands s t) (i : InputNo) : t.members i = s.members i := congrArg (·.members i) h

theorem input (h : SameButHands s t) (i : InputNo) : t.input i = s.input i := congrArg (·.input i) h

theorem effective (h : SameButHands s t) (i : InputNo) : t.effective i = s.effective i :=
  congrArg (·.effective i) h

theorem maps (h : SameButHands s t) : t.maps = s.maps := congrArg (·.maps) h

theorem watches (h : SameButHands s t) : t.watches = s.watches := congrArg (·.watches) h

end SameButHands

theorem sameButHands_setHolding (s : State) (i : InputNo) (h : Holding) : SameButHands s (s.setHolding i h) := rfl

/-! ### One member changes hands -/

/-- The member `j` gets the holder `x`, and the record of `q` for it is rewritten by `f` on the member's own E_n: the
common shape of `releaseMember` and `grantMember`. -/
def State.handMember (s : State) (x : Option Port) (q : Port) (f : CompRecord → Int → CompRecord) (j : InputNo) :
    State :=
  (s.setHolding j { s.holding j with holder := x }).setRecord q j (f (s.record q j) (s.effective j))

/-- `t` is `s` with every input of `l` handed to `x`, the records of `q` for them rewritten by `f`. -/
structure Handed (s : State) (l : List InputNo) (x : Option Port) (q : Port) (f : CompRecord → Int → CompRecord)
    (t : State) : Prop where
  frame : SameButHands s t
  holding : ∀ j, t.holding j = if j ∈ l then { s.holding j with holder := x } else s.holding j
  record : ∀ r j, t.record r j = if r = q ∧ j ∈ l then f (s.record r j) (s.effective j) else s.record r j

theorem handed_foldl (s : State) (x : Option Port) (q : Port) (f : CompRecord → Int → CompRecord) {l : List InputNo}
    (hl : l.Nodup) : Handed s l x q f (l.foldl (fun t j => t.handMember x q f j) s) := by
  induction l generalizing s with
  | nil => exact ⟨.refl s, fun j => by simp, fun r j => by simp⟩
  | cons i l ih =>
    obtain ⟨hi, hl⟩ := List.nodup_cons.mp hl
    obtain ⟨frame, holding, record⟩ := ih (s.handMember x q f i) hl
    have first : SameButHands s (s.handMember x q f i) := rfl
    refine ⟨first.trans frame, fun j => ?_, fun r j => ?_⟩
    · rw [List.foldl_cons, holding]
      by_cases h : j = i
      · subst h; simp [hi, State.handMember, State.holding_setHolding]
      · simp [h, State.handMember, State.holding_setHolding]
    · rw [List.foldl_cons, record, first.effective]
      by_cases h : j = i
      · subst h; simp +contextual [hi, State.handMember, State.record_setRecord]
      · simp [h, State.handMember, State.record_setRecord]

/-! ### The members of a unit -/

/-- A unit is kept on an unlinked input, or on the even member of a linked pair (R25). -/
theorem State.unit_cases {s : State} {u : InputNo} (hu : s.isLinkedOdd u = false) :
    (s.linked (pairOf u) = false ∧ s.members u = [u]) ∨
    (s.linked (pairOf u) = true ∧ u = evenOf (pairOf u) ∧ s.members u = [u, oddOf (pairOf u)]) := by
  cases hl : s.linked (pairOf u) with
  | false => exact .inl ⟨rfl, by simp [State.members, hl]⟩
  | true =>
    have hu' : evenOf (pairOf u) = u := by simpa [State.unitOf, hl] using State.unitOf_eq_self hu
    exact .inr ⟨rfl, hu'.symm, by simp only [State.members, hl, if_true, hu']⟩

theorem State.isLinkedOdd_evenOf (s : State) (k : PairNo) : s.isLinkedOdd (evenOf k) = false := by
  have even : (evenOf k).val % 2 ≠ 1 := by simp only [evenOf]; omega
  simp [State.isLinkedOdd, even]

theorem State.isLinkedOdd_oddOf (s : State) (k : PairNo) : s.isLinkedOdd (oddOf k) = s.linked k := by
  have odd : (oddOf k).val % 2 = 1 := by simp only [oddOf]; omega
  simp [State.isLinkedOdd, odd]

theorem State.mem_members_self {s : State} {u : InputNo} (hu : s.isLinkedOdd u = false) : u ∈ s.members u :=
  (State.mem_members hu).mpr (.inl rfl)

/-! ### A unit's holding is replaced -/

/-- `t` is `s` with the holding of the unit kept on `u` replaced by `h`: the unit's other member takes the holder, and
nothing else changes but records. -/
structure UnitBecomes (s : State) (u : InputNo) (h : Holding) (t : State) : Prop where
  frame : SameButHands s t
  holding : ∀ j, t.holding j =
    if j = u then h else if j ∈ s.members u then { s.holding j with holder := h.holder } else s.holding j

namespace UnitBecomes

variable {s t t' : State} {u : InputNo} {h h' : Holding}

theorem holding_self (c : UnitBecomes s u h t) : t.holding u = h := by simp [c.holding]

theorem trans (c : UnitBecomes s u h t) (c' : UnitBecomes t u h' t') : UnitBecomes s u h' t' := by
  refine ⟨c.frame.trans c'.frame, fun j => ?_⟩
  rw [c'.holding, c.frame.members, c.holding]
  by_cases hj : j = u
  · simp [hj]
  · by_cases hm : j ∈ s.members u <;> simp [hj, hm]

end UnitBecomes

/-- Handing a unit over after its queue has been set replaces its holding. -/
theorem Handed.unitBecomes {s t : State} {u : InputNo} {queue : List Port} {x : Option Port} {q : Port}
    {f : CompRecord → Int → CompRecord} (hu : s.isLinkedOdd u = false)
    (c : Handed (s.setQueue u queue) (s.members u) x q f t) :
    UnitBecomes s u { holder := x, queue := queue } t := by
  refine ⟨(sameButHands_setHolding s u _).trans c.frame, fun j => ?_⟩
  rw [c.holding]
  by_cases hj : j = u
  · subst hj; simp [State.mem_members_self hu, State.setQueue, State.holding_setHolding]
  · simp [hj, State.setQueue, State.holding_setHolding]

/-! ### Release and grant (R36, R37, R56, R57) -/

theorem State.handed_release (s : State) (u : InputNo) (h : Port) :
    Handed s (s.members u) none h CompRecord.freeze (s.release u h) := handed_foldl s none h _ (s.members_nodup u)

theorem State.handed_grant (s : State) (u : InputNo) (q : Port) :
    Handed (s.setQueue u ((s.holding u).queue.erase q)) (s.members u) (some q) q CompRecord.rebase (s.grant u q) :=
  handed_foldl (s.setQueue u ((s.holding u).queue.erase q)) (some q) q _ (s.members_nodup u)

@[simp] theorem State.setQueue_self (s : State) (u : InputNo) : s.setQueue u (s.holding u).queue = s := by
  show s.setHolding u (s.holding u) = s
  simp [State.setHolding, State.holding]

theorem State.release_unitBecomes {s : State} {u : InputNo} (h : Port) (hu : s.isLinkedOdd u = false) :
    UnitBecomes s u { holder := none, queue := (s.holding u).queue } (s.release u h) :=
  Handed.unitBecomes hu (by rw [s.setQueue_self]; exact s.handed_release u h)

theorem State.grant_unitBecomes {s : State} {u : InputNo} (q : Port) (hu : s.isLinkedOdd u = false) :
    UnitBecomes s u { holder := some q, queue := (s.holding u).queue.erase q } (s.grant u q) :=
  Handed.unitBecomes hu (s.handed_grant u q)

theorem State.release_record (s : State) (u : InputNo) (h q : Port) (j : InputNo) :
    (s.release u h).record q j =
      if q = h ∧ j ∈ s.members u then (s.record q j).freeze (s.effective j) else s.record q j :=
  (s.handed_release u h).record q j

theorem State.grant_record (s : State) (u : InputNo) (p q : Port) (j : InputNo) :
    (s.grant u p).record q j =
      if q = p ∧ j ∈ s.members u then (s.record q j).rebase (s.effective j) else s.record q j :=
  (s.handed_grant u p).record q j

/-! ### Passing on and displacement (R31, R33) -/

/-- With nobody waiting, passing on is a release. -/
theorem State.passOn_nil {s : State} {u : InputNo} (h : Port) (hu : s.isLinkedOdd u = false)
    (e : (s.holding u).queue = []) : s.passOn u h = s.release u h := by
  simp [State.passOn, (State.release_unitBecomes h hu).holding_self, e]

/-- With a waiter at position 1, passing on is a release and a grant to it. -/
theorem State.passOn_cons {s : State} {u : InputNo} {q : Port} {rest : List Port} (h : Port)
    (hu : s.isLinkedOdd u = false) (e : (s.holding u).queue = q :: rest) :
    s.passOn u h = (s.release u h).grant u q := by
  simp [State.passOn, (State.release_unitBecomes h hu).holding_self, e]

theorem State.passOn_unitBecomes {s : State} {u : InputNo} (h : Port) (hu : s.isLinkedOdd u = false) :
    UnitBecomes s u { holder := (s.holding u).queue.head?, queue := (s.holding u).queue.tail } (s.passOn u h) := by
  have freed := State.release_unitBecomes h hu
  have hu' : (s.release u h).isLinkedOdd u = false := (freed.frame.isLinkedOdd u).trans hu
  cases hq : (s.holding u).queue with
  | nil => simpa [State.passOn_nil h hu hq, hq] using freed
  | cons q rest =>
    simpa [State.passOn_cons h hu hq, freed.holding_self, hq] using freed.trans (State.grant_unitBecomes q hu')

theorem State.passOn_record {s : State} {u : InputNo} (h q : Port) (j : InputNo) (hu : s.isLinkedOdd u = false)
    (hq : h ∉ (s.holding u).queue) :
    (s.passOn u h).record q j =
      if j ∉ s.members u then s.record q j
      else if q = h then (s.record q j).freeze (s.effective j)
      else if (s.holding u).queue.head? = some q then (s.record q j).rebase (s.effective j)
      else s.record q j := by
  have freed := (State.release_unitBecomes h hu).frame
  cases e : (s.holding u).queue with
  | nil => by_cases hj : j ∈ s.members u <;> simp [State.passOn_nil h hu e, State.release_record, hj]
  | cons p rest =>
    have hp : p ≠ h := by rintro rfl; simp [e] at hq
    simp only [State.passOn_cons h hu e, State.grant_record, State.release_record, freed.members, freed.effective,
      List.head?_cons, Option.some.injEq]
    by_cases hj : j ∈ s.members u
    · by_cases hh : q = h
      · subst hh; simp [hj, hp.symm]
      · simp [hj, hh, eq_comm]
    · simp [hj]

theorem State.setQueue_released {s : State} {u : InputNo} (h : Port) (queue : List Port)
    (hu : s.isLinkedOdd u = false) :
    UnitBecomes s u { holder := none, queue := queue } ((s.release u h).setQueue u queue) := by
  have freed := State.release_unitBecomes h hu
  refine ⟨freed.frame.trans (sameButHands_setHolding _ u _), fun j => ?_⟩
  rw [State.setQueue, State.holding_setHolding, freed.holding_self, freed.holding]
  by_cases hj : j = u <;> simp [hj]

theorem State.displace_unitBecomes {s : State} {u : InputNo} {h p : Port} (hp : h ≠ p)
    (hu : s.isLinkedOdd u = false) :
    UnitBecomes s u { holder := some p, queue := h :: (s.holding u).queue.erase p } (s.displace u h p) := by
  have freed := State.release_unitBecomes h hu
  have queued := State.setQueue_released h (h :: (s.holding u).queue) hu
  have granted := queued.trans
    (State.grant_unitBecomes p ((queued.frame.isLinkedOdd u).trans hu))
  rw [queued.holding_self, List.erase_cons_tail (by simpa using hp)] at granted
  simpa only [State.displace, freed.holding_self] using granted

theorem State.displace_record {s : State} {u : InputNo} {h p : Port} (q : Port) (j : InputNo) (hp : h ≠ p)
    (hu : s.isLinkedOdd u = false) :
    (s.displace u h p).record q j =
      if j ∉ s.members u then s.record q j
      else if q = p then (s.record q j).rebase (s.effective j)
      else if q = h then (s.record q j).freeze (s.effective j)
      else s.record q j := by
  have freed := State.release_unitBecomes h hu
  have queued := State.setQueue_released h (h :: (s.holding u).queue) hu
  have unchanged (q : Port) : ((s.release u h).setQueue u (h :: (s.holding u).queue)).record q j =
      (s.release u h).record q j := rfl
  simp only [State.displace, State.grant_record, freed.holding_self, queued.frame.members, queued.frame.effective,
    unchanged, State.release_record]
  by_cases hj : j ∈ s.members u
  · by_cases hq : q = p
    · subst hq; simp [hj, hp.symm]
    · simp [hj, hq]
  · simp [hj]

/-! ### Lawful holdings (R25, R26) -/

open Sys2Proof.Safety

/-- The laws of R25 and R26 that one input's holding obeys by itself, less the bound on the queue, which follows. -/
def Holding.Lawful (h : Holding) : Prop :=
  h.queue.Nodup ∧ (∀ p ∈ h.queue, h.holder ≠ some p) ∧ (h.holder = none → h.queue = [])

/-- Of four ports, one holds and at most three others wait. -/
theorem Holding.Lawful.length_le {h : Holding} (l : h.Lawful) : h.queue.length ≤ 3 := by
  obtain ⟨nodup, other, free⟩ := l
  cases e : h.holder with
  | none => simp [free e]
  | some p =>
    have : (p :: h.queue).Nodup := List.nodup_cons.mpr ⟨fun hp => other p hp e, nodup⟩
    have := this.length_le_card
    simp only [List.length_cons, Fintype.card_fin] at this
    omega

theorem Holding.lawful_free : Holding.Lawful { holder := none, queue := [] } := by simp [Holding.Lawful]

theorem Holding.lawful_alone (x : Option Port) : Holding.Lawful { holder := x, queue := [] } := by
  simp [Holding.Lawful]

/-- Lawful holdings: each by itself, and the members of each linked pair together. -/
theorem holdingsOk_iff (s : State) :
    holdingsOk s ↔ (∀ i, (s.holding i).Lawful) ∧
      ∀ k, s.linked k = true →
        (s.holding (oddOf k)).holder = (s.holding (evenOf k)).holder ∧ (s.holding (oddOf k)).queue = [] := by
  constructor
  · intro ok
    refine ⟨fun i => ?_, fun k hk => ?_⟩
    · obtain ⟨nodup, -, other, free, -⟩ := ok i
      exact ⟨nodup, other, free⟩
    · obtain ⟨-, -, -, -, pair⟩ := ok (oddOf k)
      have odd : (oddOf k).val % 2 = 1 := by simp only [oddOf]; omega
      simpa only [pairOf_oddOf] using pair odd (by simpa using hk)
  · rintro ⟨each, pair⟩ i
    obtain ⟨nodup, other, free⟩ := each i
    refine ⟨nodup, (each i).length_le, other, free, fun hodd hl => ?_⟩
    have hi : i = oddOf (pairOf i) := by ext; simp only [oddOf, pairOf]; omega
    rw [hi]
    simpa using pair (pairOf i) hl

/-- A unit that takes a lawful holding leaves all holdings lawful. -/
theorem UnitBecomes.holdingsOk {s t : State} {u : InputNo} {h : Holding} (c : UnitBecomes s u h t)
    (hu : s.isLinkedOdd u = false) (hh : h.Lawful) (ok : holdingsOk s) : holdingsOk t := by
  rw [holdingsOk_iff] at ok ⊢
  obtain ⟨each, pair⟩ := ok
  rcases State.unit_cases hu with ⟨hl, hm⟩ | ⟨hl, hu', hm⟩
  · refine ⟨fun j => ?_, fun k hk => ?_⟩
    · by_cases hj : j = u <;> simp [c.holding, hm, hj, hh, each]
    · rw [c.frame.linked] at hk
      have he : evenOf k ≠ u := by rintro rfl; simp [hk] at hl
      have ho : oddOf k ≠ u := by rintro rfl; simp [hk] at hl
      simpa [c.holding, hm, he, ho] using pair k hk
  · refine ⟨fun j => ?_, fun k hk => ?_⟩
    · by_cases hj : j = u
      · simp [c.holding, hj, hh]
      · by_cases ho : j = oddOf (pairOf u)
        · subst ho
          simpa [c.holding, hm, hj, pair _ hl] using Holding.lawful_alone _
        · simp [c.holding, hm, hj, ho, each]
    · rw [c.frame.linked] at hk
      by_cases hp : k = pairOf u
      · subst hp
        have ho : oddOf (pairOf u) ≠ u := fun e => evenOf_ne_oddOf _ (hu'.symm.trans e.symm)
        simp [c.holding, hm, ho, ← hu', pair _ hl]
      · have he : evenOf k ≠ u := by rintro rfl; simp at hp
        have ho : oddOf k ≠ u := by rintro rfl; simp at hp
        have he' : evenOf k ≠ oddOf (pairOf u) := fun e => hp (by simpa using congrArg pairOf e)
        have ho' : oddOf k ≠ oddOf (pairOf u) := fun e => hp (by simpa using congrArg pairOf e)
        simpa [c.holding, hm, he, ho, he', ho'] using pair k hk

/-- Where the holdings are lawful, a unit's queue is changed by replacing its holding. -/
theorem State.setQueue_unitBecomes {s : State} {u : InputNo} (queue : List Port) (hu : s.isLinkedOdd u = false)
    (ok : Safety.holdingsOk s) : UnitBecomes s u { s.holding u with queue := queue } (s.setQueue u queue) := by
  refine ⟨rfl, fun j => ?_⟩
  rw [State.setQueue, State.holding_setHolding]
  by_cases hj : j = u
  · simp [hj]
  · rcases State.unit_cases hu with ⟨-, hm⟩ | ⟨hl, hu', hm⟩
    · simp [hj, hm]
    · by_cases ho : j = oddOf (pairOf u)
      · have := (((holdingsOk_iff s).mp ok).2 _ hl).1
        rw [← hu', ← ho] at this
        simp [hm, ho, ← this]
      · simp [hj, hm, ho]

end Sys2Proof.Machine
end

section
/-! SUPPORT and the statements on CLAIM and YIELD (R27 to R38). -/

namespace Sys2Proof.Machine

open Sys2Proof.Safety Sys2Proof.Claims

/-! ### Requests that are taken as they arrive -/

/-- A request of a ready port is decided at once, and its response is appended (R149, R150). -/
theorem State.whenRunning_request {s : State} {p : Port} (r : Request) (h : ready s p) :
    s.whenRunning (s.request p r) =
      (decideRequest p r s).1.withLinks (answeredLinks s p ((decideRequest p r s).2.toResponse r)) := by
  obtain ⟨running, attached, empty, place⟩ := h
  rw [State.whenRunning_running _ running, State.request_ready r attached empty place, State.serve_withLinks]

theorem exec_claim_ready {s : State} {p : Port} (c : Byte) (h : ready s p) :
    exec (.claim p c) s = .next ((decideClaim p c s).1.withLinks
      (answeredLinks s p ((decideClaim p c s).2.toResponse { kind := 1, target := c, a := 0, b := 0 }))) :=
  congrArg Host.Outcome.next (State.whenRunning_request _ h)

theorem exec_yield_ready {s : State} {p : Port} (c : Byte) (h : ready s p) :
    exec (.yield p c) s = .next ((decideYield p c s).1.withLinks
      (answeredLinks s p ((decideYield p c s).2.toResponse { kind := 2, target := c, a := 0, b := 0 }))) :=
  congrArg Host.Outcome.next (State.whenRunning_request _ h)

/-! ### Targets and units as the statements write them -/

theorem inputTarget_target (i : InputNo) : inputTarget (target i) = some i := by
  have h : (target i).toNat = i.val := by simp only [target, BitVec.toNat_ofNat]; omega
  simp only [inputTarget, h, i.isLt, dif_pos]

theorem isUnit_iff (s : State) (i : InputNo) : isUnit s i ↔ s.isLinkedOdd i = false := by
  simp [isUnit, State.isLinkedOdd]

theorem member_iff {s : State} {i : InputNo} (hi : s.isLinkedOdd i = false) (j : InputNo) :
    member s i j ↔ j ∈ s.members i := (State.mem_members hi).symm

theorem CompRecord.freeze_eq_released (r : CompRecord) (e : Int) : r.freeze e = released r e :=
  CompRecord.recompute_other _ e

theorem CompRecord.rebase_eq_granted (r : CompRecord) (e : Int) : r.rebase e = granted r e := by
  simp [CompRecord.rebase, CompRecord.recompute_holder, CompRecord.unclamped, clampGain_eq]

/-! ### Standing (R38) -/

theorem State.standing_holder {s : State} {p : Port} {u : InputNo} (h : (s.holding u).holder = some p) :
    s.standing p u = 0 := by simp [State.standing, h]

theorem State.standing_waiter {s : State} {p : Port} {u : InputNo} (h : (s.holding u).holder ≠ some p)
    (hq : p ∈ (s.holding u).queue) : s.standing p u = ((s.holding u).queue.idxOf p : Nat) + 1 := by
  simp [State.standing, h, hq]

theorem State.standing_outside {s : State} {p : Port} {u : InputNo} (h : (s.holding u).holder ≠ some p)
    (hq : p ∉ (s.holding u).queue) : s.standing p u = -1 := by
  simp [State.standing, h, hq]

/-! ### The decision of CLAIM, case by case (R28 to R31) -/

section

variable {s : State} {p h : Port} {i : InputNo}

theorem decideClaim_free (hu : s.isLinkedOdd i = false) (free : (s.holding i).holder = none) :
    decideClaim p (target i) s = (s.grant i p, { outcome := .done, value := 0 }) := by
  have := State.standing_holder (congrArg Holding.holder (State.grant_unitBecomes p hu).holding_self)
  simp [decideClaim, inputTarget_target, hu, State.unitOf_eq_self hu, free, standingReply, this]

theorem decideClaim_holder (hu : s.isLinkedOdd i = false) (held : (s.holding i).holder = some p) :
    decideClaim p (target i) s = (s, { outcome := .already, value := 0 }) := by
  simp [decideClaim, inputTarget_target, hu, State.unitOf_eq_self hu, held, standingReply, State.standing_holder held]

theorem decideClaim_senior (hu : s.isLinkedOdd i = false) (held : (s.holding i).holder = some h) (hp : h ≠ p)
    (senior : s.store.settings.senior = some p) :
    decideClaim p (target i) s = (s.displace i h p, { outcome := .done, value := 0 }) := by
  have := State.standing_holder (congrArg Holding.holder (State.displace_unitBecomes hp hu).holding_self)
  simp [decideClaim, inputTarget_target, hu, State.unitOf_eq_self hu, held, hp, senior, standingReply, this]

theorem decideClaim_waiter (hu : s.isLinkedOdd i = false) (held : (s.holding i).holder = some h) (hp : h ≠ p)
    (junior : s.store.settings.senior ≠ some p) (waits : p ∈ (s.holding i).queue) :
    decideClaim p (target i) s =
      (s, { outcome := .already, value := ((s.holding i).queue.idxOf p : Nat) + 1 }) := by
  have := State.standing_waiter (p := p) (u := i) (by simpa [held] using hp) waits
  simp [decideClaim, inputTarget_target, hu, State.unitOf_eq_self hu, held, hp, junior, waits, standingReply, this]

theorem decideClaim_outside (hu : s.isLinkedOdd i = false) (held : (s.holding i).holder = some h) (hp : h ≠ p)
    (junior : s.store.settings.senior ≠ some p) (outside : p ∉ (s.holding i).queue) :
    decideClaim p (target i) s = (s.setQueue i ((s.holding i).queue ++ [p]),
      { outcome := .queued, position := (s.holding i).queue.length + 1,
        value := ((s.holding i).queue.length : Nat) + 1 }) := by
  have after : (s.setQueue i ((s.holding i).queue ++ [p])).holding i =
      { s.holding i with queue := (s.holding i).queue ++ [p] } := by simp [State.setQueue, State.holding_setHolding]
  have := State.standing_waiter (s := s.setQueue i ((s.holding i).queue ++ [p])) (p := p) (u := i)
    (by simpa [after, held] using hp) (by simp [after])
  rw [after, List.idxOf_append_of_notMem outside] at this
  simp [decideClaim, inputTarget_target, hu, State.unitOf_eq_self hu, held, hp, junior, outside, standingReply, this]

/-! ### The decision of YIELD, case by case (R33 to R35) -/

theorem decideYield_holder (hu : s.isLinkedOdd i = false) (held : (s.holding i).holder = some p)
    (outside : p ∉ (s.holding i).queue) :
    decideYield p (target i) s = (s.passOn i p, { outcome := .done, value := -1 }) := by
  have after := (State.passOn_unitBecomes p hu).holding_self
  have := State.standing_outside (s := s.passOn i p) (p := p) (u := i)
    (by rw [after]; exact fun e => outside (List.mem_of_head? e))
    (by rw [after]; exact fun e => outside (List.mem_of_mem_tail e))
  simp [decideYield, inputTarget_target, hu, State.unitOf_eq_self hu, held, standingReply, this]

theorem decideYield_waiter (hu : s.isLinkedOdd i = false) (other : (s.holding i).holder ≠ some p)
    {before after : List Port} (queue : (s.holding i).queue = before ++ p :: after) (hb : p ∉ before)
    (ha : p ∉ after) :
    decideYield p (target i) s = (s.setQueue i (before ++ after), { outcome := .done, value := -1 }) := by
  have closed : (s.holding i).queue.erase p = before ++ after := by
    rw [queue, List.erase_append_right _ hb, List.erase_cons_head]
  have left : (s.setQueue i (before ++ after)).holding i = { s.holding i with queue := before ++ after } := by
    simp [State.setQueue, State.holding_setHolding]
  have := State.standing_outside (s := s.setQueue i (before ++ after)) (p := p) (u := i)
    (by simpa [left] using other) (by simp [left, hb, ha])
  have waits : p ∈ (s.holding i).queue := by simp [queue]
  simp [decideYield, inputTarget_target, hu, State.unitOf_eq_self hu, other, waits, standingReply, State.withdraw,
    closed, this]

theorem decideYield_outside (hu : s.isLinkedOdd i = false) (other : (s.holding i).holder ≠ some p)
    (outside : p ∉ (s.holding i).queue) :
    decideYield p (target i) s = (s, { outcome := .notHolder, value := -1 }) := by
  simp [decideYield, inputTarget_target, hu, State.unitOf_eq_self hu, other, outside, standingReply,
    State.standing_outside other outside]

end

end Sys2Proof.Machine

namespace Sys2Proof.Proofs

open Sys2Proof.Machine Sys2Proof.Safety Sys2Proof.Claims

/-- Settles O3: the decision is a grant, and a grant replaces the unit's holding and re-bases the new holder's
records. -/
theorem claimOnAFreeUnitGrantsIt : Obligations.ClaimOnAFreeUnitGrantsIt := by
  intro s p i hr hi free empty
  rw [isUnit_iff] at hi
  have granted := State.grant_unitBecomes p hi
  refine ⟨_, exec_claim_ready _ hr, ?_⟩
  rw [decideClaim_free hi free]
  refine ⟨granted.frame.frame, ⟨granted.frame.linkedVec, granted.frame.handed⟩, fun j => ?_, fun q j => ?_, rfl⟩
  · rw [State.withLinks_holding, granted.holding]
    by_cases hj : j = i
    · subst hj; simp [empty]
    · simp [member_iff hi, hj]
  · rw [State.withLinks_record, State.grant_record, CompRecord.rebase_eq_granted]
    simp only [member_iff hi]
    rfl

/-- Settles O4: the three cases of a CLAIM that grants nothing. -/
theorem claimOnAHeldUnitQueuesOrIsAlready : Obligations.ClaimOnAHeldUnitQueuesOrIsAlready := by
  intro s p i hr hi
  rw [isUnit_iff] at hi
  refine ⟨fun held => ?_, fun h held hp junior => ⟨fun waits => ?_, fun outside => ?_⟩⟩
  · rw [onlyAnswers, exec_claim_ready _ hr, decideClaim_holder hi held]; rfl
  · rw [onlyAnswers, exec_claim_ready _ hr, decideClaim_waiter hi held hp junior waits]; rfl
  · rw [exec_claim_ready _ hr, decideClaim_outside hi held hp junior outside]; rfl

/-- Settles O5: the decision is a senior displacement, a release and a grant with the holder put at position 1
between. -/
theorem seniorClaimDisplacesTheHolder : Obligations.SeniorClaimDisplacesTheHolder := by
  intro s p h i hr hi held hp senior
  rw [isUnit_iff] at hi
  have displaced := State.displace_unitBecomes hp hi
  refine ⟨_, exec_claim_ready _ hr, ?_⟩
  rw [decideClaim_senior hi held hp senior]
  refine ⟨displaced.frame.frame, ⟨displaced.frame.linkedVec, displaced.frame.handed⟩, displaced.holding_self,
    fun j hj => ?_, fun q j => ?_, rfl⟩
  · rw [State.withLinks_holding, displaced.holding]
    simp only [member_iff hi, hj, if_false]
  · rw [State.withLinks_record, State.displace_record q j hp hi, CompRecord.rebase_eq_granted,
      CompRecord.freeze_eq_released]
    simp only [member_iff hi]
    rfl

/-- Settles O6: the decision passes the unit on, a release and a grant to the front waiter where there is one. -/
theorem yieldByTheHolderPassesTheUnitOn : Obligations.YieldByTheHolderPassesTheUnitOn := by
  intro s p i hr hi held outside
  rw [isUnit_iff] at hi
  have passed := State.passOn_unitBecomes p hi
  refine ⟨_, exec_yield_ready _ hr, ?_⟩
  rw [decideYield_holder hi held outside]
  refine ⟨passed.frame.frame, ⟨passed.frame.linkedVec, passed.frame.handed⟩, passed.holding_self,
    fun j hj => ?_, fun q j => ?_, rfl⟩
  · rw [State.withLinks_holding, passed.holding]
    simp only [member_iff hi, hj, if_false]
  · rw [State.withLinks_record, State.passOn_record p q j hi outside, CompRecord.rebase_eq_granted,
      CompRecord.freeze_eq_released]
    simp only [member_iff hi]
    rfl

/-- Settles O7: a waiter's YIELD closes the queue up behind it, and an outsider's is only answered. -/
theorem yieldByAnotherPortWithdrawsOrIsRefused : Obligations.YieldByAnotherPortWithdrawsOrIsRefused := by
  intro s p i hr hi other
  rw [isUnit_iff] at hi
  refine ⟨fun before after queue hb ha => ?_, fun outside => ?_⟩
  · rw [exec_yield_ready _ hr, decideYield_waiter hi other queue hb ha]; rfl
  · rw [onlyAnswers, exec_yield_ready _ hr, decideYield_outside hi other outside]; rfl

end Sys2Proof.Proofs
end

section
/-! SUPPORT. The laws of holdings, of linked pairs and of ABSENT ports through one step: what they read of the state,
and that each shared operation leaves them standing. -/

namespace Sys2Proof.Machine

open Sys2Proof.Safety Sys2Proof.Claims

/-! ### The laws together, and what they read of a state -/

/-- The holdings are lawful, linked pairs agree, and ABSENT ports are empty-handed. -/
structure State.Lawful (s : State) : Prop where
  holdings : holdingsOk s
  pairs : linkedRequestsAgree s
  absent : absentOk s

/-- The requested values of an input, which the members of a linked pair share (R74, R77). -/
def Preamp.requested (x : Preamp) : Nat × Bool × Mode := (x.gainTarget, x.padRequested, x.modeRequested)

/-- The port neither holds the input nor waits for it. -/
def State.clearOf (s : State) (p : Port) (i : InputNo) : Prop :=
  (s.holding i).holder ≠ some p ∧ p ∉ (s.holding i).queue

/-- The port has no draft, commit, enabled watch, request, response, overrun or last taken count (R118, R148, R163). -/
def State.idle (s : State) (p : Port) : Prop :=
  (s.mapsOf p).draft = (s.mapsOf p).live ∧ (s.mapsOf p).commitPending = false ∧
  (∀ w, (s.watch p w).enabled = false) ∧
  (s.port p).requests = [] ∧ (s.port p).responses = [] ∧ (s.port p).overrun = false ∧ (s.port p).lastTaken = none

theorem linkedRequestsAgree_iff (s : State) :
    linkedRequestsAgree s ↔
      ∀ k, s.linked k = true → (s.input (oddOf k)).requested = (s.input (evenOf k)).requested := by
  simp only [linkedRequestsAgree, Preamp.requested, Prod.mk.injEq]

theorem absentOk_iff (s : State) :
    absentOk s ↔ ∀ p, (s.port p).attach = .absent → (∀ i, s.clearOf p i) ∧ s.idle p := Iff.rfl

/-- `t` agrees with `s` on what the laws read: the same holdings, links and requested values, and no port is ABSENT and
busy that was not so before. -/
structure SeenAlike (s t : State) : Prop where
  holdings : t.arbiter.holdings = s.arbiter.holdings
  linked : t.arbiter.linked = s.arbiter.linked
  requested : ∀ i, (t.input i).requested = (s.input i).requested
  absent : ∀ p, (t.port p).attach = .absent → (s.port p).attach = .absent ∧ (s.idle p → t.idle p)

namespace SeenAlike

variable {s t u : State}

theorem refl (s : State) : SeenAlike s s := ⟨rfl, rfl, fun _ => rfl, fun _ h => ⟨h, id⟩⟩

theorem trans (h : SeenAlike s t) (h' : SeenAlike t u) : SeenAlike s u := by
  refine ⟨h'.holdings.trans h.holdings, h'.linked.trans h.linked, fun i => (h'.requested i).trans (h.requested i),
    fun p hp => ?_⟩
  obtain ⟨ht, idle'⟩ := h'.absent p hp
  obtain ⟨hs, idle⟩ := h.absent p ht
  exact ⟨hs, idle' ∘ idle⟩

/-- A change of what the laws never read. -/
theorem of_eq (holdings : t.arbiter.holdings = s.arbiter.holdings) (linked : t.arbiter.linked = s.arbiter.linked)
    (requested : ∀ i, (t.input i).requested = (s.input i).requested) (maps : t.maps = s.maps)
    (watches : t.watches = s.watches) (links : t.links = s.links) : SeenAlike s t := by
  refine ⟨holdings, linked, requested, fun p hp => ?_⟩
  simp only [State.port, links] at hp
  refine ⟨hp, fun idle => ?_⟩
  simpa only [State.idle, State.mapsOf, State.watch, State.port, maps, watches, links] using idle

theorem holding (h : SeenAlike s t) (i : InputNo) : t.holding i = s.holding i :=
  congrArg (·.pick i) h.holdings

theorem linked_pick (h : SeenAlike s t) (k : PairNo) : t.linked k = s.linked k := congrArg (·.pick k) h.linked

theorem lawful (h : SeenAlike s t) (l : s.Lawful) : t.Lawful where
  holdings := by simpa only [holdingsOk, holdingOk, h.holding, h.linked_pick] using l.holdings
  pairs := by
    have := (linkedRequestsAgree_iff s).mp l.pairs
    exact (linkedRequestsAgree_iff t).mpr (by simpa only [h.linked_pick, h.requested] using this)
  absent := by
    refine (absentOk_iff t).mpr fun p hp => ?_
    obtain ⟨hs, idle⟩ := h.absent p hp
    obtain ⟨clear, rest⟩ := (absentOk_iff s).mp l.absent p hs
    exact ⟨fun i => by simpa only [State.clearOf, h.holding] using clear i, idle rest⟩

/-- A fold of steps that the laws do not see. -/
theorem foldl {α : Type} {f : State → α → State} (hf : ∀ s a, SeenAlike s (f s a)) (l : List α) (s : State) :
    SeenAlike s (l.foldl f s) := by
  induction l generalizing s with
  | nil => exact refl s
  | cons a l ih => exact (hf s a).trans (ih (f s a))

end SeenAlike

/-! ### Changes of one block -/

theorem seenAlike_setInput {s : State} {i : InputNo} {x : Preamp} (h : x.requested = (s.input i).requested) :
    SeenAlike s (s.setInput i x) :=
  .of_eq rfl rfl (fun j => by rw [State.input_setInput]; split <;> simp_all) rfl rfl rfl

theorem seenAlike_setRecord (s : State) (q : Port) (i : InputNo) (r : CompRecord) : SeenAlike s (s.setRecord q i r) :=
  .of_eq rfl rfl (fun _ => rfl) rfl rfl rfl

theorem seenAlike_setGroup (s : State) (g : GroupNo) (x : PhantomGroup) : SeenAlike s (s.setGroup g x) :=
  .of_eq rfl rfl (fun _ => rfl) rfl rfl rfl

theorem seenAlike_frontEnd {s : State} {x : FrontEnd}
    (h : ∀ i, (x.inputs.pick i).requested = (s.input i).requested) : SeenAlike s { s with frontEnd := x } :=
  .of_eq rfl rfl h rfl rfl rfl

theorem seenAlike_store (s : State) (st : Store) : SeenAlike s { s with store := st } :=
  .of_eq rfl rfl (fun _ => rfl) rfl rfl rfl

theorem seenAlike_clock (s : State) (c : Clock) : SeenAlike s { s with clock := c } :=
  .of_eq rfl rfl (fun _ => rfl) rfl rfl rfl

theorem seenAlike_level (s : State) (x : LevelEngine) : SeenAlike s { s with level := x } :=
  .of_eq rfl rfl (fun _ => rfl) rfl rfl rfl

theorem seenAlike_pending (s : State) (x : List Instr) : SeenAlike s { s with pending := x } :=
  .of_eq rfl rfl (fun _ => rfl) rfl rfl rfl

theorem seenAlike_phase (s : State) (x : Phase) (st : Store) : SeenAlike s { s with phase := x, store := st } :=
  .of_eq rfl rfl (fun _ => rfl) rfl rfl rfl

/-- A port that is not ABSENT has its link, its maps and its watches changed: the laws say nothing of them. -/
theorem seenAlike_ownPort {s t : State} {p : Port} (arbiter : t.arbiter = s.arbiter) (front : t.frontEnd = s.frontEnd)
    (hp : (t.port p).attach ≠ .absent) (links : ∀ q, q ≠ p → t.port q = s.port q)
    (maps : ∀ q, q ≠ p → t.mapsOf q = s.mapsOf q) (watches : ∀ q, q ≠ p → t.watches.pick q = s.watches.pick q) :
    SeenAlike s t := by
  refine ⟨congrArg _ arbiter, congrArg _ arbiter, fun i => ?_, fun q hq => ?_⟩
  · simp only [State.input, front]
  · have ne : q ≠ p := by rintro rfl; exact hp hq
    rw [links q ne] at hq
    refine ⟨hq, fun idle => ?_⟩
    simpa only [State.idle, State.watch, links q ne, maps q ne, watches q ne] using idle

theorem seenAlike_setMaps {s : State} {p : Port} (m : PortMaps) (hp : (s.port p).attach ≠ .absent) :
    SeenAlike s (s.setMaps p m) :=
  seenAlike_ownPort rfl rfl hp (fun _ _ => rfl) (fun q h => by simp [State.mapsOf_setMaps, h]) (fun _ _ => rfl)

theorem seenAlike_watches {s : State} {p : Port} (x : Vector Watch 8) (hp : (s.port p).attach ≠ .absent) :
    SeenAlike s { s with watches := s.watches.put p x } :=
  seenAlike_ownPort rfl rfl hp (fun _ _ => rfl) (fun _ _ => rfl) (fun _ h => Vector.pick_put_ne _ _ h)

/-- A link that is not ABSENT afterwards, wherever it comes from. -/
theorem seenAlike_setPort {s : State} {p : Port} {l : PortLink} (hl : l.attach ≠ .absent) :
    SeenAlike s (s.setPort p l) :=
  seenAlike_ownPort (p := p) rfl rfl (by simpa [State.port_setPort] using hl)
    (fun q h => by simp [State.port_setPort, h]) (fun _ _ => rfl) (fun _ _ => rfl)

/-- A link whose attach state and queues stay as they are. -/
theorem seenAlike_setPort_same {s : State} {p : Port} {l : PortLink} (attach : l.attach = (s.port p).attach)
    (requests : l.requests = (s.port p).requests) (responses : l.responses = (s.port p).responses)
    (overrun : l.overrun = (s.port p).overrun) (lastTaken : l.lastTaken = (s.port p).lastTaken) :
    SeenAlike s (s.setPort p l) := by
  refine ⟨rfl, rfl, fun _ => rfl, fun q hq => ?_⟩
  rw [State.port_setPort] at hq
  by_cases h : q = p
  · subst h
    refine ⟨by simpa [attach] using hq, fun idle => ?_⟩
    simpa [State.idle, State.port_setPort, requests, responses, overrun, lastTaken] using idle
  · refine ⟨by simpa [h] using hq, fun idle => ?_⟩
    simpa [State.idle, State.port_setPort, h] using idle

theorem seenAlike_setLane (s : State) (p : Port) (l : LaneId) (x : Lane) : SeenAlike s (s.setLane p l x) := by
  cases l <;> exact seenAlike_setPort_same rfl rfl rfl rfl rfl

/-! ### The front end's operations -/

theorem seenAlike_reachInput (s : State) (i : InputNo) : SeenAlike s (s.reachInput i) := by
  unfold State.reachInput
  split
  · exact seenAlike_setInput rfl
  · exact .refl s

theorem seenAlike_changeGroup (s : State) (g : GroupNo) (x : PhantomGroup) : SeenAlike s (s.changeGroup g x) := by
  have reached : SeenAlike s
      (if x.state.live then (groupInputs g).foldl State.reachInput (s.setGroup g x) else s.setGroup g x) := by
    split
    · exact (seenAlike_setGroup s g x).trans (.foldl seenAlike_reachInput _ _)
    · exact seenAlike_setGroup s g x
  unfold State.changeGroup
  dsimp only
  split
  · exact reached
  · exact reached.trans (seenAlike_store _ _)

theorem seenAlike_endFrontEnd (s : State) (samples : CycleSamples) : SeenAlike s (s.endFrontEnd samples) := by
  have ended (x : Preamp) (v : Vector Sample 64) : (x.endCycle v).requested = x.requested := by
    unfold Preamp.endCycle; split <;> rfl
  unfold State.endFrontEnd
  exact seenAlike_frontEnd fun i => by simp [ended]

/-- A cycle start moves what is in effect, never what is requested (R2, R3, R5). -/
theorem Preamp.startCycle_requested (x : Preamp) (g : PhantomGroup) (b : Bool) :
    (x.startCycle g b).requested = x.requested := by
  have pad (y : Preamp) : y.takePad.requested = y.requested := by unfold Preamp.takePad; split <;> rfl
  have mode (y : Preamp) : (y.takeMode g.state).requested = y.requested := by
    unfold Preamp.takeMode; split
    · rfl
    · split <;> rfl
  exact (mode _).trans (pad _)

theorem seenAlike_startFrontEnd (s : State) : SeenAlike s s.startFrontEnd := by
  have moved : SeenAlike s { s with frontEnd := { s.frontEnd with inputs := .fill s.startedInput } } :=
    seenAlike_frontEnd fun i => by simp [State.startedInput, Preamp.startCycle_requested]
  unfold State.startFrontEnd
  exact moved.trans (seenAlike_store _ _)

/-! ### The clock tracker's operations -/

/-- `t` differs from `s` at most in the clock tracker's state. -/
def ClockOnly (s t : State) : Prop := t = { s with clock := t.clock }

theorem ClockOnly.trans {s t u : State} (h : ClockOnly s t) (h' : ClockOnly t u) : ClockOnly s u :=
  Eq.trans h' (congrArg (fun x : State => { x with clock := u.clock }) h)

theorem ClockOnly.seenAlike {s t : State} (h : ClockOnly s t) : SeenAlike s t := by
  rw [h]; exact seenAlike_clock s _

theorem clockOnly_acquireOrFree (s : State) (r : Option Port) : ClockOnly s (s.acquireOrFree r) := by
  cases r <;> rfl

theorem clockOnly_leaveFree (s : State) : ClockOnly s s.leaveFree := by
  unfold State.leaveFree; split <;> rfl

theorem clockOnly_loseReference (s : State) : ClockOnly s s.loseReference := by
  unfold State.loseReference
  split
  · rfl
  · exact clockOnly_acquireOrFree s _
  · rfl
  · rfl

theorem clockOnly_clockAttached (s : State) (p : Port) : ClockOnly s (s.clockAttached p) :=
  ClockOnly.trans (t := { s with clock := { s.clock with refused := s.clock.refused.erase p } }) rfl
    (clockOnly_leaveFree _)

theorem clockOnly_clockDetached (s : State) (p : Port) : ClockOnly s (s.clockDetached p) := by
  unfold State.clockDetached
  split
  · exact clockOnly_loseReference s
  · rfl

theorem clockOnly_clockListWritten (s : State) : ClockOnly s s.clockListWritten := by
  have emptied : ClockOnly s { s with clock := { s.clock with refused := [] } } := rfl
  unfold State.clockListWritten
  dsimp only
  split
  · exact emptied.trans (clockOnly_leaveFree _)
  · split
    · exact emptied
    · exact emptied.trans (clockOnly_loseReference _)

theorem clockOnly_goodInterval (s : State) (d : Int) : ClockOnly s (s.goodInterval d) := by
  unfold State.goodInterval; split <;> rfl

theorem clockOnly_badInterval (s : State) : ClockOnly s s.badInterval := by
  unfold State.badInterval
  split
  · rfl
  · rfl
  · split <;> rfl
  · rfl

theorem clockOnly_measure (s : State) (count : Byte) (tick : Nat) : ClockOnly s (s.measure count tick) := by
  have kept (x : Predecessor) : ClockOnly s { s with clock := { s.clock with predecessor := some x } } := rfl
  unfold State.measure
  split
  · dsimp only
    split
    · exact kept _
    · split
      · split
        · exact (kept _).trans (clockOnly_goodInterval _ _)
        · exact (kept _).trans (clockOnly_badInterval _)
      · exact kept _
  · rfl

theorem clockOnly_forgetIfLaneChanged (s before : State) : ClockOnly s (s.forgetIfLaneChanged before) := by
  unfold State.forgetIfLaneChanged; split <;> rfl

theorem clockOnly_acquireExpired (s : State) : ClockOnly s s.acquireExpired := by
  unfold State.acquireExpired
  split
  · exact ClockOnly.trans (t := { s with clock := _ }) rfl (clockOnly_acquireOrFree _ _)
  all_goals rfl

theorem clockOnly_holdoverExpired (s : State) : ClockOnly s s.holdoverExpired := by
  unfold State.holdoverExpired
  split
  · exact clockOnly_acquireOrFree s _
  all_goals rfl

/-! ### The port links' operations on lanes -/

theorem seenAlike_attachPort (s : State) (p : Port) : SeenAlike s (s.attachPort p) := by
  unfold State.attachPort
  split
  · exact .refl s
  · exact (seenAlike_setPort (by simp)).trans (clockOnly_clockAttached _ p).seenAlike

theorem seenAlike_detachPort (s : State) (p : Port) : SeenAlike s (s.detachPort p) := by
  unfold State.detachPort
  split
  · exact (seenAlike_setPort (by simp)).trans (clockOnly_clockDetached _ p).seenAlike
  · exact .refl s

theorem seenAlike_dropLane (s : State) (p : Port) (l : LaneId) : SeenAlike s (s.dropLane p l) := by
  have fallen := seenAlike_setLane s p l (s.lane p l).enterDown
  unfold State.dropLane
  dsimp only
  refine SeenAlike.trans ?_ (clockOnly_forgetIfLaneChanged _ s).seenAlike
  split
  · exact fallen.trans (seenAlike_detachPort _ p)
  · exact fallen

theorem seenAlike_missLane (s : State) (p : Port) (l : LaneId) : SeenAlike s (s.missLane p l) := by
  unfold State.missLane
  dsimp only
  split
  · exact .refl s
  · split
    · exact .refl s
    · exact seenAlike_dropLane s p l
    · split
      · exact seenAlike_dropLane s p l
      · exact seenAlike_setLane s p l _

theorem seenAlike_validHeader (s : State) (p : Port) (l : LaneId) (count : Byte) (tick : Nat) :
    SeenAlike s (s.validHeader p l count tick) := by
  have noted := seenAlike_setLane s p l ((s.lane p l).validHeader count (missTicks s.clock.rate))
  unfold State.validHeader
  dsimp only
  split
  · split
    · exact noted.trans (clockOnly_measure _ count tick).seenAlike
    · exact noted
  · split
    · exact (noted.trans (seenAlike_attachPort _ p)).trans (clockOnly_forgetIfLaneChanged _ s).seenAlike
    · exact noted

theorem seenAlike_arrive (s : State) (p : Port) (l : LaneId) (count requests crcHigh crcLow : Byte) (tick : Nat) :
    SeenAlike s (s.arrive p l count requests crcHigh crcLow tick) := by
  unfold State.arrive
  dsimp only
  split
  · split
    · exact (seenAlike_setLane s p l _).trans (seenAlike_validHeader _ p l count tick)
    · exact seenAlike_setLane s p l _
  · exact .refl s

/-! ### The restart -/

theorem seenAlike_writeDefaults (s : State) : SeenAlike s s.writeDefaults := by
  unfold State.writeDefaults
  split
  · exact .refl s
  · exact .of_eq rfl rfl (fun _ => rfl) rfl rfl rfl

theorem seenAlike_beginRestart (s : State) : SeenAlike s s.beginRestart :=
  SeenAlike.trans (t := { s with phase := .restartWaits }) (.of_eq rfl rfl (fun _ => rfl) rfl rfl rfl)
    (seenAlike_writeDefaults _)

/-! ### The cycle boundaries, but for the requests taken -/

theorem Watch.evaluate_enabled (x : Watch) (peak : Option Nat) : (x.evaluate peak).enabled = x.enabled := by
  unfold Watch.evaluate; split <;> rfl

theorem seenAlike_evaluateWatches (s : State) : SeenAlike s s.evaluateWatches := by
  refine ⟨rfl, rfl, fun _ => rfl, fun p hp => ⟨hp, ?_⟩⟩
  have enabled (w : WatchNo) : (s.evaluateWatches.watch p w).enabled = (s.watch p w).enabled := by
    simp only [State.evaluateWatches, State.watch, Vector.pick_fill, Watch.evaluate_enabled]
  rintro ⟨draft, commit, watches, queues⟩
  exact ⟨draft, commit, fun w => (enabled w).trans (watches w), queues⟩

theorem seenAlike_endCycle (s : State) (samples : CycleSamples) : SeenAlike s (s.endCycle samples) := by
  have handed (s : State) : SeenAlike s s.handRecords := .of_eq rfl rfl (fun _ => rfl) rfl rfl rfl
  exact ((((seenAlike_endFrontEnd s samples).trans (handed _)).trans (seenAlike_level _ _)).trans
    (seenAlike_level _ _)).trans (seenAlike_evaluateWatches _)

theorem seenAlike_goLive (s : State) : SeenAlike s s.goLive := by
  refine ⟨rfl, rfl, fun _ => rfl, fun p hp => ⟨hp, ?_⟩⟩
  rintro ⟨draft, commit, rest⟩
  have same : s.goLive.mapsOf p = s.mapsOf p := by
    simp only [State.mapsOf] at commit
    simp [State.goLive, State.mapsOf, PortMaps.goLive, commit]
  exact ⟨by rw [same]; exact draft, by rw [same]; exact commit, rest⟩

theorem seenAlike_settleClip (s : State) : SeenAlike s s.settleClip := by
  unfold State.settleClip
  split
  · exact .refl s
  · exact seenAlike_level s _

theorem seenAlike_startBlocks (s : State) : SeenAlike s s.startBlocks := by
  have counted : SeenAlike s { s with cycleCount := some s.nextCount } := .of_eq rfl rfl (fun _ => rfl) rfl rfl rfl
  have records (s : State) : SeenAlike s s.startRecords := .of_eq rfl rfl (fun _ => rfl) rfl rfl rfl
  exact (((((counted.trans (seenAlike_startFrontEnd _)).trans (records _)).trans (seenAlike_level _ _)).trans
    (seenAlike_goLive _)).trans (seenAlike_settleClip _))

theorem seenAlike_leave (s : State) : SeenAlike s s.leave := by
  refine ⟨rfl, rfl, fun _ => rfl, fun p hp => ?_⟩
  have same : s.leave.port p = { s.port p with responses := (s.port p).responses.drop Config.windowResponses } :=
    Vector.pick_fill _ _
  rw [same] at hp
  refine ⟨hp, ?_⟩
  rintro ⟨draft, commit, watches, requests, responses, overrun, lastTaken⟩
  exact ⟨draft, commit, watches, by rw [same]; exact requests, by rw [same]; simp [responses],
    by rw [same]; exact overrun, by rw [same]; exact lastTaken⟩

theorem State.sendDownlinks_port (s : State) (count : Byte) (leaving : Vector (List Response) 4) (p : Port) :
    (s.sendDownlinks count leaving).port p = { s.port p with
      overrun := false
      downlink := some (s.downlinkCopy p count (leaving.pick p))
      primary := { (s.port p).primary with sent := (s.downlinkCopy p count (leaving.pick p)).bytes }
      secondary := { (s.port p).secondary with sent := (s.downlinkCopy p count (leaving.pick p)).bytes } } :=
  Vector.pick_fill _ _

theorem seenAlike_sendDownlinks (s : State) (count : Byte) (leaving : Vector (List Response) 4) :
    SeenAlike s (s.sendDownlinks count leaving) := by
  refine ⟨rfl, rfl, fun _ => rfl, fun p hp => ?_⟩
  have same := s.sendDownlinks_port count leaving p
  rw [same] at hp
  refine ⟨hp, ?_⟩
  rintro ⟨draft, commit, watches, requests, responses, -, lastTaken⟩
  exact ⟨draft, commit, watches, by rw [same]; exact requests, by rw [same]; exact responses, by rw [same],
    by rw [same]; exact lastTaken⟩

theorem seenAlike_clearReported (s : State) (i : InputNo) : SeenAlike s (s.clearReported i) :=
  .of_eq rfl rfl (fun _ => rfl) rfl rfl rfl

end Sys2Proof.Machine
end

section
/-! The statement that every step keeps the holdings, the linked pairs and the ABSENT ports lawful: each operation that
changes holdings, links, requested values or attach states keeps the laws, then each command. -/

namespace Sys2Proof.Machine

open Sys2Proof.Safety Sys2Proof.Claims

/-! ### A holding by itself -/

namespace Holding.Lawful

variable {h : Holding} {p q : Port}

theorem withdraw (l : h.Lawful) : Holding.Lawful { h with queue := h.queue.erase p } := by
  obtain ⟨nodup, other, free⟩ := l
  exact ⟨nodup.erase p, fun r hr => other r (List.mem_of_mem_erase hr), fun e => by simp [free e]⟩

theorem append (l : h.Lawful) (held : h.holder = some q) (hq : q ≠ p) (hp : p ∉ h.queue) :
    Holding.Lawful { h with queue := h.queue ++ [p] } := by
  obtain ⟨nodup, other, -⟩ := l
  refine ⟨nodup.append (List.nodup_singleton p) (by simpa using hp), fun r hr => ?_, fun e => by simp [held] at e⟩
  rcases List.mem_append.mp hr with hr | hr
  · exact other r hr
  · rw [List.mem_singleton.mp hr, held]; simpa using hq

theorem displace (l : h.Lawful) (held : h.holder = some q) (hq : q ≠ p) :
    Holding.Lawful { holder := some p, queue := q :: h.queue.erase p } := by
  obtain ⟨nodup, other, -⟩ := l
  refine ⟨List.nodup_cons.mpr ⟨fun hm => other q (List.mem_of_mem_erase hm) held, nodup.erase p⟩, fun r hr => ?_,
    by simp⟩
  rcases List.mem_cons.mp hr with rfl | hr
  · simpa using hq.symm
  · simpa using (nodup.mem_erase_iff.mp hr).1.symm

theorem passOn (l : h.Lawful) : Holding.Lawful { holder := h.queue.head?, queue := h.queue.tail } := by
  obtain ⟨nodup, -, -⟩ := l
  cases e : h.queue with
  | nil => exact lawful_free
  | cons q rest =>
    obtain ⟨hq, hr⟩ := List.nodup_cons.mp (e ▸ nodup)
    exact ⟨hr, fun r hm => by rintro ⟨⟩; exact hq hm, by simp⟩

end Holding.Lawful

/-- The holding once the port is lost: passed on where the port held it, and the port withdrawn (R45). -/
def Holding.lose (h : Holding) (p : Port) : Holding :=
  if h.holder = some p then { holder := h.queue.head?, queue := h.queue.tail.erase p }
  else { h with queue := h.queue.erase p }

namespace Holding.Lawful

variable {h : Holding} {p q : Port}

theorem lose (l : h.Lawful) : (h.lose p).Lawful := by
  unfold Holding.lose
  split
  · exact l.passOn.withdraw
  · exact l.withdraw

theorem lose_clear (l : h.Lawful) : (h.lose p).holder ≠ some p ∧ p ∉ (h.lose p).queue := by
  obtain ⟨nodup, other, -⟩ := l
  unfold Holding.lose
  split
  · next held =>
    have outside : p ∉ h.queue := fun hp => other p hp held
    exact ⟨fun e => outside (List.mem_of_head? e),
      fun e => outside (List.mem_of_mem_tail (List.mem_of_mem_erase e))⟩
  · next held => exact ⟨held, nodup.not_mem_erase⟩

end Holding.Lawful

/-- A loss brings no port in. -/
theorem Holding.lose_clear_other {h : Holding} {p q : Port} (hh : h.holder ≠ some q) (hq : q ∉ h.queue) :
    (h.lose p).holder ≠ some q ∧ q ∉ (h.lose p).queue := by
  unfold Holding.lose
  split
  · exact ⟨fun e => hq (List.mem_of_head? e), fun e => hq (List.mem_of_mem_tail (List.mem_of_mem_erase e))⟩
  · exact ⟨hh, fun e => hq (List.mem_of_mem_erase e)⟩

/-! ### A unit whose holding is replaced -/

theorem SameButHands.port {s t : State} (h : SameButHands s t) (p : Port) : t.port p = s.port p :=
  congrArg (·.port p) h

theorem SameButHands.idle {s t : State} (h : SameButHands s t) (p : Port) : t.idle p = s.idle p :=
  congrArg (·.idle p) h

theorem SameButHands.linkedRequestsAgree {s t : State} (h : SameButHands s t) (ok : linkedRequestsAgree s) :
    linkedRequestsAgree t := by
  simpa only [Safety.linkedRequestsAgree, h.linked, h.input] using ok

/-- A port outside the new holding stays out of every input it was out of. -/
theorem UnitBecomes.clearOf {s t : State} {u : InputNo} {h : Holding} (c : UnitBecomes s u h t) {p : Port}
    (holder : h.holder ≠ some p) (queue : p ∉ h.queue) {i : InputNo} (clear : s.clearOf p i) : t.clearOf p i := by
  obtain ⟨hs, hq⟩ := clear
  rw [State.clearOf, c.holding]
  split
  · exact ⟨holder, queue⟩
  · split
    · exact ⟨holder, hq⟩
    · exact ⟨hs, hq⟩

/-- A unit that takes a lawful holding of ports that are not ABSENT leaves the laws standing. -/
theorem UnitBecomes.lawful {s t : State} {u : InputNo} {h : Holding} (c : UnitBecomes s u h t)
    (hu : s.isLinkedOdd u = false) (hh : h.Lawful)
    (present : ∀ p, h.holder = some p ∨ p ∈ h.queue → (s.port p).attach ≠ .absent) (l : s.Lawful) : t.Lawful where
  holdings := c.holdingsOk hu hh l.holdings
  pairs := c.frame.linkedRequestsAgree l.pairs
  absent := by
    refine (absentOk_iff t).mpr fun p hp => ?_
    rw [c.frame.port] at hp
    obtain ⟨clear, idle⟩ := (absentOk_iff s).mp l.absent p hp
    rw [c.frame.idle]
    exact ⟨fun i => c.clearOf (fun e => present p (.inl e) hp) (fun e => present p (.inr e) hp) (clear i), idle⟩

namespace State.Lawful

variable {s : State} {p h : Port} {u : InputNo}

theorem holding (l : s.Lawful) (i : InputNo) : (s.holding i).Lawful := ((holdingsOk_iff s).mp l.holdings).1 i

theorem holder_present (l : s.Lawful) {i : InputNo} (e : (s.holding i).holder = some p) :
    (s.port p).attach ≠ .absent := fun hp => (((absentOk_iff s).mp l.absent p hp).1 i).1 e

theorem waiter_present (l : s.Lawful) {i : InputNo} (e : p ∈ (s.holding i).queue) : (s.port p).attach ≠ .absent :=
  fun hp => (((absentOk_iff s).mp l.absent p hp).1 i).2 e

theorem grant (l : s.Lawful) (hu : s.isLinkedOdd u = false) (free : (s.holding u).holder = none)
    (hp : (s.port p).attach ≠ .absent) : (s.grant u p).Lawful := by
  have empty : (s.holding u).queue = [] := (l.holding u).2.2 free
  have granted := State.grant_unitBecomes p hu
  rw [empty] at granted
  exact granted.lawful hu (Holding.lawful_alone _) (by simpa using hp) l

theorem displace (l : s.Lawful) (hu : s.isLinkedOdd u = false) (held : (s.holding u).holder = some h) (ne : h ≠ p)
    (hp : (s.port p).attach ≠ .absent) : (s.displace u h p).Lawful := by
  refine (State.displace_unitBecomes ne hu).lawful hu ((l.holding u).displace held ne) (fun q hq => ?_) l
  rcases hq with e | hq
  · cases e; exact hp
  · rcases List.mem_cons.mp hq with rfl | hq
    · exact l.holder_present held
    · exact l.waiter_present (List.mem_of_mem_erase hq)

theorem append (l : s.Lawful) (hu : s.isLinkedOdd u = false) (held : (s.holding u).holder = some h) (ne : h ≠ p)
    (outside : p ∉ (s.holding u).queue) (hp : (s.port p).attach ≠ .absent) :
    (s.setQueue u ((s.holding u).queue ++ [p])).Lawful := by
  refine (State.setQueue_unitBecomes _ hu l.holdings).lawful hu ((l.holding u).append held ne outside)
    (fun q hq => ?_) l
  rcases hq with e | hq
  · exact l.holder_present e
  · rcases List.mem_append.mp hq with hq | hq
    · exact l.waiter_present hq
    · rw [List.mem_singleton.mp hq]; exact hp

theorem withdraw (l : s.Lawful) (hu : s.isLinkedOdd u = false) : (s.withdraw u p).Lawful := by
  refine (State.setQueue_unitBecomes _ hu l.holdings).lawful hu (l.holding u).withdraw (fun q hq => ?_) l
  rcases hq with e | hq
  · exact l.holder_present e
  · exact l.waiter_present (List.mem_of_mem_erase hq)

theorem passOn (l : s.Lawful) (hu : s.isLinkedOdd u = false) : (s.passOn u p).Lawful := by
  refine (State.passOn_unitBecomes p hu).lawful hu (l.holding u).passOn (fun q hq => ?_) l
  rcases hq with e | hq
  · exact l.waiter_present (List.mem_of_head? e)
  · exact l.waiter_present (List.mem_of_mem_tail hq)

/-! ### CLAIM and YIELD -/

theorem decideClaim (l : s.Lawful) (hp : (s.port p).attach ≠ .absent) (c : Byte) :
    (decideClaim p c s).1.Lawful := by
  unfold Machine.decideClaim
  split
  · exact l
  next i _ =>
  split
  · exact l
  next hi =>
  have hi : s.isLinkedOdd i = false := by simpa using hi
  rw [State.unitOf_eq_self hi]
  dsimp only
  split
  · next free => exact l.grant hi free hp
  next h held =>
  split
  · exact l
  next ne =>
  split
  · exact l.displace hi held ne hp
  split
  · exact l
  next outside => exact l.append hi held ne outside hp

theorem decideYield (l : s.Lawful) (c : Byte) : (decideYield p c s).1.Lawful := by
  unfold Machine.decideYield
  split
  · exact l
  next i _ =>
  split
  · exact l
  next hi =>
  have hi : s.isLinkedOdd i = false := by simpa using hi
  rw [State.unitOf_eq_self hi]
  dsimp only
  split
  · exact l.passOn hi
  split
  · exact l.withdraw hi
  · exact l

end State.Lawful

/-! ### Requested values of the members of a unit (R14 to R16, R77) -/

/-- `t` is `s` with the requested values of the inputs of `l` rewritten by `g`, and with whatever else the laws do not
read. -/
structure Requested (s : State) (l : List InputNo) (g : Nat × Bool × Mode → Nat × Bool × Mode) (t : State) : Prop where
  holdings : t.arbiter.holdings = s.arbiter.holdings
  linked : t.arbiter.linked = s.arbiter.linked
  maps : t.maps = s.maps
  watches : t.watches = s.watches
  links : t.links = s.links
  requested : ∀ i, (t.input i).requested = if i ∈ l then g (s.input i).requested else (s.input i).requested

namespace Requested

variable {s t u : State} {g : Nat × Bool × Mode → Nat × Bool × Mode}

theorem trans {i : InputNo} {l : List InputNo} (hi : i ∉ l) (h : Requested s [i] g t) (h' : Requested t l g u) :
    Requested s (i :: l) g u := by
  refine ⟨h'.holdings.trans h.holdings, h'.linked.trans h.linked, h'.maps.trans h.maps, h'.watches.trans h.watches,
    h'.links.trans h.links, fun j => ?_⟩
  rw [h'.requested, h.requested]
  by_cases hj : j = i
  · subst hj; simp [hi]
  · simp [hj]

theorem foldl {f : State → InputNo → State} (hf : ∀ s i, Requested s [i] g (f s i)) {l : List InputNo} (hl : l.Nodup)
    (s : State) : Requested s l g (l.foldl f s) := by
  induction l generalizing s with
  | nil => exact ⟨rfl, rfl, rfl, rfl, rfl, fun _ => by simp⟩
  | cons i l ih =>
    obtain ⟨hi, hl⟩ := List.nodup_cons.mp hl
    exact (hf s i).trans hi (ih hl (f s i))

theorem holding (h : Requested s l g t) (i : InputNo) : t.holding i = s.holding i := congrArg (·.pick i) h.holdings

theorem linked_pick (h : Requested s l g t) (k : PairNo) : t.linked k = s.linked k := congrArg (·.pick k) h.linked

theorem holdingsOk (h : Requested s l g t) (ok : Safety.holdingsOk s) : Safety.holdingsOk t := by
  simpa only [Safety.holdingsOk, holdingOk, h.holding, h.linked_pick] using ok

theorem absentOk (h : Requested s l g t) (ok : Safety.absentOk s) : Safety.absentOk t := by
  simpa only [Safety.absentOk, h.holding, State.port, State.mapsOf, State.watch, h.links, h.maps, h.watches] using ok

/-- A request that reaches every member of a unit leaves linked pairs in agreement. -/
theorem lawful {i : InputNo} (hi : s.isLinkedOdd i = false) (h : Requested s (s.members i) g t) (l : s.Lawful) :
    t.Lawful where
  holdings := h.holdingsOk l.holdings
  absent := h.absentOk l.absent
  pairs := by
    refine (linkedRequestsAgree_iff t).mpr fun k hk => ?_
    rw [h.linked_pick] at hk
    have both : oddOf k ∈ s.members i ↔ evenOf k ∈ s.members i := by
      simp only [State.mem_members hi, pairOf_oddOf, pairOf_evenOf]
      constructor
      · rintro (rfl | hp)
        · simp [State.isLinkedOdd_oddOf, hk] at hi
        · exact .inr hp
      · rintro (rfl | hp)
        · exact .inr (by simpa using hk)
        · exact .inr hp
    simp only [h.requested, both, (linkedRequestsAgree_iff s).mp l.pairs k hk]

end Requested

theorem requested_setInput {s : State} {i : InputNo} {x : Preamp} {g : Nat × Bool × Mode → Nat × Bool × Mode}
    (hx : x.requested = g (s.input i).requested) : Requested s [i] g (s.setInput i x) :=
  ⟨rfl, rfl, rfl, rfl, rfl, fun j => by
    rw [State.input_setInput]
    by_cases hj : j = i
    · subst hj; simp [hx]
    · simp [hj]⟩

theorem requested_setGainTarget (n : Nat) (s : State) (i : InputNo) :
    Requested s [i] (fun x => (n, x.2)) (s.setGainTarget i n) := by
  unfold State.setGainTarget
  split
  · next same =>
    refine ⟨rfl, rfl, rfl, rfl, rfl, fun j => ?_⟩
    split
    · next hj => rw [List.mem_singleton.mp hj, ← same]; rfl
    · rfl
  · have written := requested_setInput (s := s) (i := i) (x := { s.input i with gainTarget := n })
      (g := fun x => (n, x.2)) rfl
    exact ⟨rfl, rfl, rfl, rfl, rfl, written.requested⟩

theorem requested_requestPad (on : Bool) (s : State) (i : InputNo) :
    Requested s [i] (fun x => (x.1, on, x.2.2)) (s.requestPad i on) := requested_setInput rfl

theorem requested_requestMode (m : Mode) (s : State) (i : InputNo) :
    Requested s [i] (fun x => (x.1, x.2.1, m)) (s.requestMode i m) := requested_setInput rfl

namespace State.Lawful

variable {s : State} {p : Port}

theorem decideGain (l : s.Lawful) (c : Byte) (a : Half) : (decideGain p c a s).1.Lawful := by
  unfold Machine.decideGain
  split
  · exact l
  next i _ =>
  dsimp only
  split
  · exact l
  next hi =>
  split
  · exact l
  · exact (Requested.foldl (requested_setGainTarget _) (s.members_nodup i) s).lawful (by simpa using hi) l

theorem decidePad (l : s.Lawful) (c : Byte) (a : Half) : (decidePad p c a s).1.Lawful := by
  unfold Machine.decidePad
  split
  · exact l
  next i _ =>
  dsimp only
  split
  · exact l
  next hi =>
  split
  · exact l
  split
  · exact l
  · exact (Requested.foldl (requested_requestPad _) (s.members_nodup i) s).lawful (by simpa using hi) l

theorem decideMode (l : s.Lawful) (c : Byte) (a : Half) : (decideMode p c a s).1.Lawful := by
  unfold Machine.decideMode
  split
  · exact l
  next i _ =>
  dsimp only
  split
  · exact l
  next hi =>
  split
  · exact l
  split
  · exact l
  · exact (Requested.foldl (requested_requestMode _) (s.members_nodup i) s).lawful (by simpa using hi) l

end State.Lawful

/-! ### LINK (R73 to R76) -/

/-- The pair's link state is set and its odd member left with the even member's holder and an empty queue: what linking
and unlinking have in common (R73, R76). -/
def State.relink (s : State) (k : PairNo) (on : Bool) : State :=
  (s.changeLink k on).setHolding (oddOf k) { holder := (s.holding (evenOf k)).holder, queue := [] }

theorem State.relink_holding (s : State) (k : PairNo) (on : Bool) (i : InputNo) :
    (s.relink k on).holding i =
      if i = oddOf k then { holder := (s.holding (evenOf k)).holder, queue := [] } else s.holding i :=
  State.holding_setHolding _ _ _ _

theorem State.relink_linked (s : State) (k k' : PairNo) (on : Bool) :
    (s.relink k on).linked k' = if k' = k then on else s.linked k' := State.linked_setLinked _ _ _ _

theorem State.relink_holdingsOk {s : State} (k : PairNo) (on : Bool) (ok : holdingsOk s) :
    holdingsOk (s.relink k on) := by
  rw [holdingsOk_iff] at ok ⊢
  obtain ⟨each, pair⟩ := ok
  refine ⟨fun i => ?_, fun k' hk => ?_⟩
  · rw [State.relink_holding]
    split
    · exact Holding.lawful_alone _
    · exact each i
  · have even : evenOf k' ≠ oddOf k := fun e => by
      have := congrArg Fin.val e; simp only [evenOf, oddOf] at this; omega
    rw [State.relink_linked] at hk
    by_cases h : k' = k
    · subst h; simp [State.relink_holding, even]
    · have odd : oddOf k' ≠ oddOf k := fun e => h (by simpa using congrArg pairOf e)
      simpa [State.relink_holding, even, odd] using pair k' (by simpa [h] using hk)

theorem State.relink_absentOk {s : State} (k : PairNo) (on : Bool) (ok : absentOk s) : absentOk (s.relink k on) := by
  refine (absentOk_iff _).mpr fun p hp => ?_
  obtain ⟨clear, idle⟩ := (absentOk_iff s).mp ok p hp
  refine ⟨fun i => ?_, idle⟩
  rw [State.clearOf, State.relink_holding]
  split
  · exact ⟨(clear (evenOf k)).1, by simp⟩
  · exact clear i

/-- The odd member takes all the requested values of the even one (R74). -/
theorem requested_conformAnalog (s : State) (k : PairNo) :
    Requested s [oddOf k] (fun _ => (s.input (evenOf k)).requested) (s.conformAnalog k) := by
  have gain := requested_setGainTarget (s.input (evenOf k)).gainTarget s (oddOf k)
  refine ⟨gain.holdings, gain.linked, gain.maps, gain.watches, gain.links, fun i => ?_⟩
  by_cases hi : i = oddOf k
  · subst hi
    have := gain.requested (oddOf k)
    simp only [List.mem_singleton, if_true, Preamp.requested, Prod.mk.injEq] at this
    simp [State.conformAnalog, State.requestPad, State.requestMode, State.input_setInput, Preamp.requested, this]
  · simpa [State.conformAnalog, State.requestPad, State.requestMode, State.input_setInput, hi] using gain.requested i

namespace State.Lawful

variable {s : State} {p : Port} {k : PairNo}

theorem linkPair (l : s.Lawful) (held : (s.holding (evenOf k)).holder = some p) : (s.linkPair k p).Lawful := by
  have start : s.linkPair k p = ((s.relink k true).conformAnalog k).copyRecords k p := by
    rw [State.relink, held]; rfl
  have conformed := requested_conformAnalog (s.relink k true) k
  have lawful : ((s.relink k true).conformAnalog k).Lawful := by
    refine ⟨conformed.holdingsOk (State.relink_holdingsOk k true l.holdings), ?_,
      conformed.absentOk (State.relink_absentOk k true l.absent)⟩
    refine (linkedRequestsAgree_iff _).mpr fun k' hk => ?_
    rw [conformed.linked_pick, State.relink_linked] at hk
    rw [conformed.requested, conformed.requested]
    have even : evenOf k' ≠ oddOf k := fun e => by
      have := congrArg Fin.val e; simp only [evenOf, oddOf] at this; omega
    by_cases h : k' = k
    · subst h; simp [even]
    · have odd : oddOf k' ≠ oddOf k := fun e => h (by simpa using congrArg pairOf e)
      simp only [List.mem_singleton, odd, even, if_false]
      exact (linkedRequestsAgree_iff s).mp l.pairs k' (by simpa [h] using hk)
  rw [start]
  exact (SeenAlike.foldl (fun t q => seenAlike_setRecord t q _ _) allPorts _).lawful lawful

theorem unlinkPair (l : s.Lawful) : (s.unlinkPair k).Lawful := by
  refine ⟨State.relink_holdingsOk k false l.holdings, fun k' hk => ?_, State.relink_absentOk k false l.absent⟩
  have := (s.relink_linked k k' false).symm.trans hk
  by_cases h : k' = k
  · simp [h] at this
  · exact l.pairs k' (by simpa [h] using this)

theorem decideLink (l : s.Lawful) (c : Byte) (a : Half) : (decideLink p c a s).1.Lawful := by
  unfold Machine.decideLink
  split
  · exact l
  next k _ =>
  dsimp only
  split
  · exact l
  · split
    · exact l
    next held =>
    split
    · exact l
    dsimp only
    split
    · exact l
    · exact l.linkPair (by simpa using held)
  · split
    · exact l
    dsimp only
    split
    · exact l.unlinkPair
    · exact l

end State.Lawful

/-! ### The other decisions -/

theorem seenAlike_decidePhantom (s : State) (p : Port) (c : Byte) (a : Half) :
    SeenAlike s (decidePhantom p c a s).1 := by
  unfold decidePhantom
  split
  · exact .refl s
  dsimp only
  split
  · exact .refl s
  split
  · exact .refl s
  · exact seenAlike_changeGroup s _ _

theorem seenAlike_decideTrim (s : State) (p : Port) (c : Byte) (a : Half) : SeenAlike s (decideTrim p c a s).1 := by
  unfold decideTrim
  split
  · exact .refl s
  split
  · exact .refl s
  · exact .foldl (fun t j => seenAlike_setRecord t p j _) _ s

theorem seenAlike_decideMute (s : State) (p : Port) (c : Byte) (a : Half) : SeenAlike s (decideMute p c a s).1 := by
  unfold decideMute
  split
  · exact .refl s
  dsimp only
  split
  · exact .refl s
  split
  · exact .refl s
  · exact .foldl (fun t j => seenAlike_setRecord t p j _) _ s

theorem seenAlike_decideSlot {s : State} {p : Port} (hp : (s.port p).attach ≠ .absent) (c : Byte) (a b : Half) :
    SeenAlike s (decideSlot p c a b s).1 := by
  unfold decideSlot
  split
  · exact .refl s
  dsimp only
  split
  · exact .refl s
  split
  · exact seenAlike_setMaps _ hp
  split
  · exact .refl s
  split
  · exact .refl s
  · exact seenAlike_setMaps _ hp

theorem seenAlike_decideCommit {s : State} {p : Port} (hp : (s.port p).attach ≠ .absent) :
    SeenAlike s (decideCommit p s).1 := by
  unfold decideCommit
  dsimp only
  split
  · exact .refl s
  split
  · exact .refl s
  · exact seenAlike_setMaps _ hp

theorem seenAlike_decideRound (s : State) (p : Port) (a : Half) : SeenAlike s (decideRound p a s).1 := by
  unfold decideRound
  split
  · exact .refl s
  · exact seenAlike_level s _

theorem seenAlike_decideWatch {s : State} {p : Port} (hp : (s.port p).attach ≠ .absent) (c : Byte) (a b : Half) :
    SeenAlike s (decideWatch p c a b s).1 := by
  unfold decideWatch
  split
  · exact seenAlike_watches _ hp
  · exact .refl s

theorem seenAlike_decideWatchClear {s : State} {p : Port} (hp : (s.port p).attach ≠ .absent) (c : Byte) :
    SeenAlike s (decideWatchClear p c s).1 := by
  unfold decideWatchClear
  dsimp only
  split
  · exact seenAlike_watches _ hp
  split
  · exact .refl s
  · exact seenAlike_watches _ hp

theorem seenAlike_decideSetting (s : State) (c : Byte) (a : Half) : SeenAlike s (decideSetting c a s).1 := by
  unfold decideSetting
  split
  · exact .refl s
  dsimp only
  split
  · exact .refl s
  split
  · exact .refl s
  next x _ =>
  dsimp only
  split
  · exact (seenAlike_store s (s.store.putSettings x)).trans (clockOnly_clockListWritten _).seenAlike
  · exact seenAlike_store s _

theorem seenAlike_decideFactory (s : State) (p : Port) : SeenAlike s (decideFactory p s).1 := by
  unfold decideFactory
  split
  · exact .refl s
  · exact seenAlike_store s _

/-- A request of a port that is not ABSENT, whatever its kind, is decided lawfully. -/
theorem State.Lawful.decideRequest {s : State} {p : Port} (l : s.Lawful) (hp : (s.port p).attach ≠ .absent)
    (r : Request) : (decideRequest p r s).1.Lawful := by
  unfold Machine.decideRequest
  split
  · exact l.decideClaim hp _
  · exact l.decideYield _
  · exact l.decideGain _ _
  · exact l.decidePad _ _
  · exact l.decideMode _ _
  · exact (seenAlike_decidePhantom s p _ _).lawful l
  · exact (seenAlike_decideTrim s p _ _).lawful l
  · exact (seenAlike_decideMute s p _ _).lawful l
  · exact l.decideLink _ _
  · exact (seenAlike_decideSlot hp _ _ _).lawful l
  · exact (seenAlike_decideCommit hp).lawful l
  · exact (seenAlike_decideRound s p _).lawful l
  · exact (seenAlike_decideWatch hp _ _ _).lawful l
  · exact (seenAlike_decideWatchClear hp _).lawful l
  · exact (seenAlike_decideSetting s _ _).lawful l
  · exact (seenAlike_decideFactory s p).lawful l
  · exact l

/-! ### Requests taken from their queues (R149 to R151) -/

/-- A change that keeps the laws and every port's attach state: what taking requests does. -/
structure Serves (s t : State) : Prop where
  lawful : s.Lawful → t.Lawful
  attach : ∀ q, (t.port q).attach = (s.port q).attach

namespace Serves

variable {s t u : State}

theorem refl (s : State) : Serves s s := ⟨id, fun _ => rfl⟩

theorem trans (h : Serves s t) (h' : Serves t u) : Serves s u :=
  ⟨h'.lawful ∘ h.lawful, fun q => (h'.attach q).trans (h.attach q)⟩

theorem foldl {α : Type} {f : State → α → State} (hf : ∀ s a, Serves s (f s a)) (l : List α) (s : State) :
    Serves s (l.foldl f s) := by
  induction l generalizing s with
  | nil => exact refl s
  | cons a l ih => exact (hf s a).trans (ih (f s a))

end Serves

theorem serves_setPort {s : State} {p : Port} (l : PortLink) (hp : (s.port p).attach ≠ .absent)
    (hl : l.attach = (s.port p).attach) : Serves s (s.setPort p l) := by
  refine ⟨(seenAlike_setPort (by rwa [hl])).lawful, fun q => ?_⟩
  rw [State.port_setPort]
  split
  · next h => rw [h, hl]
  · rfl

theorem serves_serve {s : State} {p : Port} (hp : (s.port p).attach ≠ .absent) (r : Request) :
    Serves s (s.serve p r) := by
  have port (q : Port) : (decideRequest p r s).1.port q = s.port q := by rw [State.port, decideRequest_links]; rfl
  have decided : Serves s (decideRequest p r s).1 := ⟨fun l => l.decideRequest hp r, fun q => by rw [port q]⟩
  rw [State.serve_eq]
  exact decided.trans (serves_setPort _ (by rwa [port]) rfl)

/-- Only a port that is not ABSENT has a request to take. -/
theorem serves_takeOne (s : State) (p : Port) : Serves s (s.takeOne p) := by
  by_cases hp : (s.port p).attach = .absent
  · refine ⟨fun l => ?_, fun q => ?_⟩
    · obtain ⟨-, -, -, -, requests, -⟩ := (absentOk_iff s).mp l.absent p hp
      simpa [State.takeOne, requests] using l
    · unfold State.takeOne
      split
      · rfl
      · split
        · rw [State.serve_withLinks]
          simp only [State.port, State.withLinks_links, State.setPort, Vector.pick_put]
          split
          · next h => simp [h]
          · next h => simp
        · rfl
  · unfold State.takeOne
    split
    · exact .refl s
    next r rest _ =>
    split
    · exact (serves_setPort { s.port p with requests := rest } hp rfl).trans
        (serves_serve (by simpa [State.port_setPort] using hp) r)
    · exact .refl s

theorem serves_takes (s : State) (p : Port) (n : Nat) : Serves s (s.takes p n) := by
  induction n generalizing s with
  | zero => exact .refl s
  | succ n ih => exact (serves_takeOne s p).trans (ih _)

theorem serves_drain (s : State) (p : Port) : Serves s (s.drain p) := serves_takes s p _

theorem serves_takeWaiting (s : State) (schedule : List Port) : Serves s (s.takeWaiting schedule) :=
  (Serves.foldl serves_takeOne schedule s).trans (Serves.foldl serves_drain allPorts _)

theorem serves_join {s : State} {p : Port} (hp : (s.port p).attach ≠ .absent) (r : Request) :
    Serves s (s.join p r) := by
  unfold State.join
  split
  · exact (serves_setPort { s.port p with requests := (s.port p).requests ++ [r] } hp rfl).trans (serves_drain _ p)
  · exact serves_setPort _ hp rfl

theorem serves_request (s : State) (p : Port) (r : Request) : Serves s (s.request p r) := by
  unfold State.request
  split
  · exact .refl s
  · next hp => exact serves_join hp r

theorem serves_takeCopy {s : State} {p : Port} (hp : (s.port p).attach ≠ .absent) (l : LaneId) (count : Byte)
    (frames : List Request) : Serves s (s.takeCopy p l count frames) := by
  have joins (t : State) (ht : (t.port p).attach ≠ .absent) : Serves t (frames.foldl (fun t r => t.join p r) t) := by
    induction frames generalizing t with
    | nil => exact .refl t
    | cons r frames ih =>
      have first := serves_join ht r
      exact first.trans (ih _ (by rwa [first.attach]))
  exact (serves_setPort { s.port p with lastTaken := some count, laneLastUsed := some l } hp rfl).trans
    (joins _ (by simpa [State.port_setPort] using hp))

/-! ### The end of a copy -/

/-- A lane is UP only on a port that is not ABSENT. -/
theorem attach_of_lane_up {s : State} (ok : linksOk s) {p : Port} {l : LaneId} (up : (s.lane p l).state = .up) :
    (s.port p).attach ≠ .absent := by
  obtain ⟨-, -, attached, -⟩ := ok p
  have : (s.port p).attach = .attached := attached.mpr (by cases l <;> simp_all [State.lane, PortLink.lane])
  simp [this]

theorem State.setLane_attach (s : State) (p : Port) (l : LaneId) (x : Lane) (q : Port) :
    ((s.setLane p l x).port q).attach = (s.port q).attach := by
  rw [State.setLane, State.port_setPort]
  split
  · next h => subst h; cases l <;> rfl
  · rfl

theorem State.Lawful.endCopy {s : State} (h : s.Lawful) (ok : linksOk s) (p : Port) (l : LaneId) (rest : List Byte) :
    (s.endCopy p l rest).Lawful := by
  unfold State.endCopy
  dsimp only
  split
  · exact h
  · have drawn (t : State) : SeenAlike t { t with draws := s.draws + 1 } := .of_eq rfl rfl (fun _ => rfl) rfl rfl rfl
    exact ((seenAlike_setLane s p l _).trans (drawn _)).lawful h
  · have judged (x : Lane) := (seenAlike_setLane s p l x).lawful h
    split
    · next taken =>
      have up : (s.lane p l).state = .up := by simp_all
      exact (serves_takeCopy (by rw [State.setLane_attach]; exact attach_of_lane_up ok up) l _ _).lawful (judged _)
    · exact judged _

/-! ### Port loss (R45, R118, R148, R163) -/

theorem State.loseUnit_unitBecomes {s : State} {u : InputNo} (p : Port) (hu : s.isLinkedOdd u = false)
    (ok : holdingsOk s) : UnitBecomes s u ((s.holding u).lose p) (s.loseUnit p u) := by
  have withdrawn {t : State} (ht : t.isLinkedOdd u = false) (ok : holdingsOk t) :
      UnitBecomes t u { t.holding u with queue := (t.holding u).queue.erase p } (t.withdraw u p) :=
    State.setQueue_unitBecomes _ ht ok
  simp only [State.loseUnit, hu, Bool.false_eq_true, if_false, Holding.lose]
  split
  · have passed := State.passOn_unitBecomes p hu
    have lawful := passed.holdingsOk hu (((holdingsOk_iff s).mp ok).1 u).passOn ok
    simpa [passed.holding_self] using passed.trans (withdrawn ((passed.frame.isLinkedOdd u).trans hu) lawful)
  · exact withdrawn hu ok

/-- What the loss handling of some units leaves: only hands change, lawfully; no unit gets a port that it was clear of,
and these units are clear of the lost port. -/
structure Loses (s : State) (p : Port) (units : List InputNo) (t : State) : Prop where
  frame : SameButHands s t
  holdings : holdingsOk t
  clear : ∀ q u, s.isLinkedOdd u = false → s.clearOf q u → t.clearOf q u
  lost : ∀ u ∈ units, s.isLinkedOdd u = false → t.clearOf p u

theorem loses_loseUnit {s : State} (ok : holdingsOk s) (p : Port) (u : InputNo) : Loses s p [u] (s.loseUnit p u) := by
  cases hu : s.isLinkedOdd u with
  | true =>
    have same : s.loseUnit p u = s := by simp [State.loseUnit, hu]
    rw [same]
    exact ⟨.refl s, ok, fun _ _ _ => id, by simp [hu]⟩
  | false =>
    have c := State.loseUnit_unitBecomes p hu ok
    have each := ((holdingsOk_iff s).mp ok).1 u
    refine ⟨c.frame, c.holdingsOk hu each.lose ok, fun q v hv clear => ?_, fun v hv _ => ?_⟩
    · by_cases hvu : v = u
      · subst hvu
        obtain ⟨holder, queue⟩ := clear
        rw [State.clearOf, c.holding_self]
        exact Holding.lose_clear_other holder queue
      · have outside : v ∉ s.members u := by
          rcases State.unit_cases hu with ⟨-, hm⟩ | ⟨hl, -, hm⟩
          · simp [hm, hvu]
          · rw [hm]
            rintro (_ | ⟨_, hv'⟩)
            · exact hvu rfl
            · rw [List.mem_singleton.mp hv', State.isLinkedOdd_oddOf, hl] at hv; simp at hv
        simpa only [State.clearOf, c.holding, hvu, outside, if_false] using clear
    · rw [List.mem_singleton.mp hv, State.clearOf, c.holding_self]
      exact each.lose_clear

theorem loses_foldl {s : State} (ok : holdingsOk s) (p : Port) (units : List InputNo) :
    Loses s p units (units.foldl (fun t u => t.loseUnit p u) s) := by
  induction units generalizing s with
  | nil => exact ⟨.refl s, ok, fun _ _ _ => id, by simp⟩
  | cons u units ih =>
    have first := loses_loseUnit ok p u
    have rest := ih first.holdings
    refine ⟨first.frame.trans rest.frame, rest.holdings, fun q v hv clear => ?_, fun v hv unit => ?_⟩
    · exact rest.clear q v ((first.frame.isLinkedOdd v).trans hv) (first.clear q v hv clear)
    · have unit' := (first.frame.isLinkedOdd v).trans unit
      rcases List.mem_cons.mp hv with rfl | hv
      · exact rest.clear p v unit' (first.lost v (by simp) unit)
      · exact rest.lost v hv unit'

/-- With lawful holdings, a port that is clear of every unit is clear of every input. -/
theorem clearOf_of_units {s : State} (ok : holdingsOk s) {p : Port}
    (units : ∀ u, s.isLinkedOdd u = false → s.clearOf p u) (i : InputNo) : s.clearOf p i := by
  cases hi : s.isLinkedOdd i with
  | false => exact units i hi
  | true =>
    obtain ⟨odd, linked⟩ := (s.isLinkedOdd_iff i).mp hi
    have even : s.isLinkedOdd (evenOf (pairOf i)) = false := s.isLinkedOdd_evenOf _
    obtain ⟨-, -, -, -, pair⟩ := ok i
    obtain ⟨holder, queue⟩ := pair odd linked
    exact ⟨by rw [holder]; exact (units _ even).1, by simp [queue]⟩

theorem State.loses_loseHoldings {s : State} (ok : holdingsOk s) (p : Port) :
    Loses s p allInputs (s.loseHoldings p) := loses_foldl ok p allInputs

theorem mem_allInputs (i : InputNo) : i ∈ allInputs := by
  unfold allInputs; exact List.mem_finRange i

/-- After the loss handling the lost port is clear of every input, and no port comes in. -/
theorem State.loseHoldings_clear {s : State} (ok : holdingsOk s) (p q : Port) (hq : q = p ∨ ∀ i, s.clearOf q i)
    (i : InputNo) : (s.loseHoldings p).clearOf q i := by
  have loses := State.loses_loseHoldings ok p
  refine clearOf_of_units loses.holdings (fun u hu => ?_) i
  rw [loses.frame.isLinkedOdd] at hu
  rcases hq with rfl | clear
  · exact loses.lost u (mem_allInputs u) hu
  · exact loses.clear q u hu (clear u)

/-- With the link lost and the port out of every holding, the slot mapper's and the watch unit's loss handling leave the
port idle, and the laws standing. -/
theorem lawful_loseMaps_loseWatches {s t : State} {p : Port} (l : s.Lawful)
    (frame : SameButHands (s.setPort p (s.port p).lose) t) (holdings : holdingsOk t)
    (clear : ∀ q, (q = p ∨ ∀ i, s.clearOf q i) → ∀ i, t.clearOf q i) :
    ((t.loseMaps p).loseWatches p).Lawful := by
  have port (q : Port) : t.port q = if q = p then (s.port p).lose else s.port q :=
    (frame.port q).trans (State.port_setPort s p q _)
  have maps : t.maps = s.maps := frame.maps
  have watches : t.watches = s.watches := frame.watches
  refine ⟨holdings, frame.linkedRequestsAgree l.pairs, (absentOk_iff _).mpr fun q hq => ?_⟩
  have links : ((t.loseMaps p).loseWatches p).port q = t.port q := rfl
  have mapsOf : ((t.loseMaps p).loseWatches p).mapsOf q =
      if q = p then { t.mapsOf p with draft := (t.mapsOf p).live, commitPending := false } else t.mapsOf q :=
    State.mapsOf_setMaps t p q _
  have watch (w : WatchNo) : ((t.loseMaps p).loseWatches p).watch q w = if q = p then .reset else t.watch q w := by
    simp only [State.loseWatches, State.watch, Vector.pick_put]
    split
    · exact Vector.pick_fill _ _
    · rfl
  simp only [State.idle, links, port, mapsOf, watch] at hq ⊢
  by_cases h : q = p
  · simp only [h, if_true]
    exact ⟨clear p (.inl rfl), trivial, trivial, fun _ => rfl, rfl, rfl, rfl, rfl⟩
  · simp only [h, if_false, State.mapsOf, State.watch, maps, watches] at hq ⊢
    obtain ⟨out, idle⟩ := (absentOk_iff s).mp l.absent q hq
    exact ⟨clear q (.inr out), idle⟩

theorem State.Lawful.losePort {s : State} (l : s.Lawful) (p : Port) : (s.losePort p).Lawful := by
  have ok : holdingsOk (s.setPort p (s.port p).lose) := l.holdings
  have loses := State.loses_loseHoldings ok p
  have lost := (clockOnly_clockDetached _ p).seenAlike.lawful (lawful_loseMaps_loseWatches l loses.frame
    loses.holdings fun q hq i => State.loseHoldings_clear ok p q hq i)
  unfold State.losePort
  dsimp only
  split
  · exact (seenAlike_beginRestart _).lawful lost
  · exact lost

/-! ### Start-up (R83) -/

theorem State.startUp_linked (s : State) (k : PairNo) :
    s.startUp.linked k = s.store.frontEndCopy.load.linked.pick k := by
  simp only [State.startUp, State.linked, Store.start]

theorem State.startUp_input (s : State) (i : InputNo) :
    s.startUp.input i = startInput s.store.frontEndCopy.load i := by
  unfold State.startUp
  exact Vector.pick_fill _ _

/-- The record loaded at start has linked pairs conformed (R83). -/
theorem FrontEndCopy.load_agrees (c : FrontEndCopy) {k : PairNo} (h : c.load.linked.pick k = true) :
    (startInput c.load (oddOf k)).requested = (startInput c.load (evenOf k)).requested := by
  simp only [FrontEndCopy.load, StoredFrontEnd.conform] at h
  simp [Preamp.requested, startInput, FrontEndCopy.load, StoredFrontEnd.conform, h]

theorem State.Lawful.startUp (s : State) : s.startUp.Lawful where
  holdings := (holdingsOk_iff _).mpr ⟨fun i => by simpa [State.startUp, State.holding] using Holding.lawful_free,
    fun k _ => by simp [State.startUp, State.holding]⟩
  pairs := by
    refine (linkedRequestsAgree_iff _).mpr fun k hk => ?_
    rw [State.startUp_linked] at hk
    simpa only [State.startUp_input] using s.store.frontEndCopy.load_agrees hk
  absent := by
    refine (absentOk_iff _).mpr fun p _ => ⟨fun i => ?_, ?_⟩
    · simp [State.clearOf, State.startUp, State.holding]
    · simp [State.idle, State.startUp, State.reset, State.mapsOf, State.watch, State.port, PortMaps.reset,
        PortLink.reset, Watch.reset, Watch.enabled, RelationMask.nonempty]

/-! ### Every command -/

theorem State.Lawful.whenRunning {s t : State} (l : s.Lawful) (lt : t.Lawful) : (s.whenRunning t).Lawful := by
  unfold State.whenRunning
  split
  · exact lt
  · exact l

theorem State.Lawful.startCycle {s : State} (l : s.Lawful) (schedule : List Port) : (s.startCycle schedule).Lawful := by
  have taken := (serves_takeWaiting _ schedule).lawful
    (((seenAlike_startBlocks s).trans (seenAlike_leave _)).lawful l)
  have sent := ((seenAlike_sendDownlinks _ s.nextCount (.fill s.startBlocks.leaving)).trans
    (seenAlike_clearReported _ (digestInput s.nextCount))).lawful taken
  unfold State.startCycle
  dsimp only
  split
  · exact (seenAlike_beginRestart _).lawful sent
  · exact sent

/-- Every command keeps the laws, in every state whose port links are lawful. -/
theorem exec_lawful {c : Instr} {s t : State} (l : s.Lawful) (ok : linksOk s) (h : exec c s = .next t) :
    t.Lawful := by
  have requests (p : Port) (r : Request) : (s.whenRunning (s.request p r)).Lawful :=
    l.whenRunning ((serves_request s p r).lawful l)
  have running {t : State} (h : SeenAlike s t) : (s.whenRunning t).Lawful := l.whenRunning (h.lawful l)
  cases c <;> cases h
  case copyStart p lane rest =>
    exact l.whenRunning ((seenAlike_setLane _ p lane _).lawful (l.endCopy ok p lane rest))
  case signalLoss p lane rest => exact l.whenRunning (l.endCopy ok p lane rest)
  case headerArrival p lane count n hi lo tick => exact running (seenAlike_arrive s p lane count n hi lo tick)
  case miss p lane => exact running (seenAlike_missLane s p lane)
  case graceExpiry p =>
    refine l.whenRunning ?_
    split
    · exact l.losePort p
    · exact l
  case cycleStart schedule => exact l.whenRunning (l.startCycle schedule)
  case cycleEnd samples => exact running (seenAlike_endCycle s samples)
  case modeTimerExpiry i => exact running (seenAlike_setInput rfl)
  case chargeTimerExpiry g => exact running (seenAlike_changeGroup s g _)
  case dischargeTimerExpiry g => exact running (seenAlike_changeGroup s g _)
  case lowSenseTimerExpiry g => exact running (seenAlike_changeGroup s g _)
  case faultVoidTimerExpiry g => exact running (seenAlike_setGroup s g _)
  case senseChange g level => exact (seenAlike_setGroup s g _).lawful l
  case acquireTimerExpiry => exact running (clockOnly_acquireExpired s).seenAlike
  case holdoverTimerExpiry => exact running (clockOnly_holdoverExpired s).seenAlike
  case quietTimerExpiry =>
    refine l.whenRunning ?_
    split
    · exact (seenAlike_store s _).lawful l
    · exact l
  case ceilingTimerExpiry =>
    refine l.whenRunning ?_
    split
    · exact (seenAlike_store s _).lawful l
    · exact l
  case frontEndWriteComplete =>
    split
    · exact (seenAlike_store s _).lawful l
    · exact ((seenAlike_store s _).trans (seenAlike_writeDefaults _)).lawful l
    · exact l
  case settingsWriteComplete =>
    split
    · exact (seenAlike_store s _).lawful l
    · exact ((seenAlike_store s _).trans (seenAlike_writeDefaults _)).lawful l
    · exact l
  case factoryWriteComplete =>
    split
    · exact (seenAlike_phase s _ _).lawful l
    · exact State.Lawful.startUp _
    all_goals exact l
  case setupSwitchTurn x => exact (seenAlike_store s _).lawful l
  case powerOn a b => exact State.Lawful.startUp _
  case powerLoss => exact (seenAlike_phase s _ _).lawful l
  all_goals exact requests _ _

end Sys2Proof.Machine

namespace Sys2Proof.Proofs

open Sys2Proof.Machine Sys2Proof.Safety

/-- Settles O58: every command keeps the laws of holdings, linked pairs and ABSENT ports; of the rest of the invariant
only the lawful port links are needed, so that a copy is taken on a port that is not ABSENT. -/
theorem stepsKeepHoldingsAndLinks : Obligations.StepsKeepHoldingsAndLinks := by
  intro s t inv h
  obtain ⟨-, -, holdings, pairs, absent, -, -, -, links, -⟩ := inv
  have lawful : s.Lawful := ⟨holdings, pairs, absent⟩
  have : t.Lawful := by
    unfold step at h
    split at h
    · cases h; exact lawful
    next rest _ => exact exec_lawful ((seenAlike_pending s rest).lawful lawful) links h
  exact ⟨this.holdings, this.pairs, this.absent⟩

end Sys2Proof.Proofs
end

section
/-! SUPPORT. The bytes of a downlink copy: every field's bytes by the model are those of the layouts of 8.8.3 and
8.8.4. -/

namespace Sys2Proof.Machine

open Sys2Proof.Claims

/-! ### Signed and unsigned fields (R153) -/

theorem bytesOf16_ofInt (v : Int) : bytesOf16 (BitVec.ofInt 16 v) = field 2 v := by
  simp only [bytesOf16, field, List.range_succ, List.range_zero, List.nil_append, List.map_cons, List.map_nil,
    List.cons_append, List.cons.injEq, and_true]
  refine ⟨?_, ?_⟩ <;>
    (apply BitVec.eq_of_toNat_eq
     simp only [BitVec.extractLsb'_toNat, BitVec.toNat_ofInt, Nat.shiftRight_eq_div_pow]
     omega)

theorem bytesOf24_ofInt (v : Int) : bytesOf24 (BitVec.ofInt 24 v) = field 3 v := by
  simp only [bytesOf24, field, List.range_succ, List.range_zero, List.nil_append, List.map_cons, List.map_nil,
    List.cons_append, List.cons.injEq, and_true]
  refine ⟨?_, ?_, ?_⟩ <;>
    (apply BitVec.eq_of_toNat_eq
     simp only [BitVec.extractLsb'_toNat, BitVec.toNat_ofInt, Nat.shiftRight_eq_div_pow]
     omega)

theorem bytesOf32_ofInt (v : Int) : bytesOf32 (BitVec.ofInt 32 v) = field 4 v := by
  simp only [bytesOf32, field, List.range_succ, List.range_zero, List.nil_append, List.map_cons, List.map_nil,
    List.cons_append, List.cons.injEq, and_true]
  refine ⟨?_, ?_, ?_, ?_⟩ <;>
    (apply BitVec.eq_of_toNat_eq
     simp only [BitVec.extractLsb'_toNat, BitVec.toNat_ofInt, Nat.shiftRight_eq_div_pow]
     omega)

theorem bytesOf16_eq (x : BitVec 16) : bytesOf16 x = field 2 (x.toNat : Nat) := by
  rw [← bytesOf16_ofInt]; simp

theorem bytesOf32_eq (x : BitVec 32) : bytesOf32 x = field 4 (x.toNat : Nat) := by
  rw [← bytesOf32_ofInt]; simp

theorem byte_eq_field (v : Int) : [BitVec.ofInt 8 v] = field 1 v := by simp [field]

theorem withCrc_eq (body : List Byte) : withCrc body = withTheCrc body := by
  rw [withCrc, bytesOf16_eq]

/-! ### Bytes and words of flags -/

/-- A list of bits as a number, bit 0 first. -/
def bitsValue (l : List Bool) : Nat := l.foldr (fun b n => 2 * n + b.toNat) 0

theorem bitsByte_eq (l : List Bool) : bitsByte l = BitVec.ofNat 8 (bitsValue l) := rfl

theorem bitsValue_cons (b : Bool) (l : List Bool) : bitsValue (b :: l) = 2 * bitsValue l + b.toNat := rfl

theorem bitsValue_drop (n : Nat) (l : List Bool) : bitsValue (l.drop n) = bitsValue l / 2 ^ n := by
  induction n generalizing l with
  | zero => simp
  | succ n ih =>
    cases l with
    | nil => simp [bitsValue]
    | cons b l =>
      have : b.toNat < 2 := Bool.toNat_lt b
      rw [List.drop_succ_cons, ih, bitsValue_cons, Nat.pow_succ', ← Nat.div_div_eq_div_mul]
      congr 1; omega

theorem bitsValue_take (n : Nat) (l : List Bool) : bitsValue (l.take n) = bitsValue l % 2 ^ n := by
  induction n generalizing l with
  | zero => simp [bitsValue, Nat.mod_one]
  | succ n ih =>
    cases l with
    | nil => simp [bitsValue]
    | cons b l =>
      have : b.toNat < 2 := Bool.toNat_lt b
      have half : (2 * bitsValue l + b.toNat) / 2 = bitsValue l := by omega
      rw [List.take_succ_cons, bitsValue_cons, bitsValue_cons, ih, Nat.pow_succ', Nat.mod_mul, half]
      omega

/-- Adding the powers of the set bits gives the number. -/
theorem foldl_zipIdx_bits (l : List Bool) (k acc : Nat) :
    (l.zipIdx k).foldl (fun acc x => if x.1 then acc + 2 ^ x.2 else acc) acc = acc + 2 ^ k * bitsValue l := by
  induction l generalizing k acc with
  | nil => simp [bitsValue]
  | cons b l ih =>
    rw [List.zipIdx_cons, List.foldl_cons, ih, bitsValue_cons, Nat.pow_succ]
    cases b <;> simp <;> ring

theorem flagByte_eq (bits : List Bool) : flagByte bits = bitsByte bits := by
  rw [flagByte, foldl_zipIdx_bits, bitsByte_eq]; simp

theorem toList_eq_map_pick {α : Type} {n : Nat} (v : Vector α n) : v.toList = (List.finRange n).map v.pick := by
  apply List.ext_getElem
  · simp
  · intro i h h'
    simp [Vector.pick, Vector.get_eq_getElem]

theorem maskValue_eq {n : Nat} (v : Vector Bool n) : maskValue v = bitsValue v.toList := by
  have pairs : v.toList.zipIdx = (List.finRange n).map fun i => (v.pick i, i.val) := by
    apply List.ext_getElem
    · simp
    · intro i h h'
      simp [Vector.pick, Vector.get_eq_getElem]
  have sum := foldl_zipIdx_bits v.toList 0 0
  rw [pairs, List.foldl_map] at sum
  simpa [maskValue] using sum

/-- Byte `low / 8` of a mask holds the flags from `low` on. -/
theorem extract_mask (v : Vector Bool 32) {low : Nat} (h : low + 8 ≤ 32) :
    (BitVec.ofNat 32 (maskValue v)).extractLsb' low 8 =
      bitsByte ((List.range 8).map fun k => v.pick (Fin.ofNat 32 (low + k))) := by
  have flags : ((List.range 8).map fun k => v.pick (Fin.ofNat 32 (low + k))) = (v.toList.drop low).take 8 := by
    apply List.ext_getElem
    · simp; omega
    · intro i hi hi'
      have : i < 8 := by simpa using hi
      have : (low + i) % 32 = low + i := Nat.mod_eq_of_lt (by omega)
      simp [Vector.pick, Vector.get_eq_getElem, this]
  have bound : bitsValue v.toList < 2 ^ 32 := by
    have := bitsValue_take 32 v.toList
    rw [List.take_of_length_le (by simp)] at this
    rw [this]; exact Nat.mod_lt _ (by decide)
  rw [flags, bitsByte_eq, bitsValue_take, bitsValue_drop, maskValue_eq]
  apply BitVec.eq_of_toNat_eq
  simp only [BitVec.extractLsb'_toNat, BitVec.toNat_ofNat, Nat.shiftRight_eq_div_pow, Nat.mod_mod,
    Nat.mod_eq_of_lt bound]

theorem maskBytes_eq (v : Vector Bool 32) : bytesOf32 (BitVec.ofNat 32 (maskValue v)) = maskBytes v := by
  simp only [bytesOf32, maskBytes, List.map_cons, List.map_nil]
  rw [extract_mask v (low := 24) (by decide), extract_mask v (low := 16) (by decide),
    extract_mask v (low := 8) (by decide), extract_mask v (low := 0) (by decide)]

theorem maskByte_eq (v : Vector Bool 8) : BitVec.ofNat 8 (maskValue v) = bitsByte v.toList := by
  rw [maskValue_eq, bitsByte_eq]

theorem laneStatusByte_eq (x : LaneState) (r : LaneStatus) : laneStatusByte x r = laneField x r := by
  obtain ⟨valid, crc, length, count, taken⟩ := r
  rw [laneStatusByte, flagByte_eq]
  cases x <;> revert valid crc length count taken <;> decide

/-! ### Header, digest, values and responses -/

theorem portByte_eq (x : Option Port) : portByte x = portField x := by cases x <;> rfl

theorem Header.bytes_eq (h : Header) : h.bytes = headerLayout h := by
  simp only [Header.bytes, headerLayout, flagByte_eq, laneStatusByte_eq, maskBytes_eq, maskByte_eq]
  refine congrArg₂ (· ++ ·) (congrArg₂ (· ++ ·) (congrArg₂ (· ++ ·) (congrArg₂ (· ++ ·) (congrArg₂ (· ++ ·)
    ?firstNine rfl) rfl) rfl) ?groups) rfl
  case firstNine =>
    simp only [List.cons.injEq, true_and, and_true]
    refine ⟨by cases h.rate <;> rfl, by cases h.clock <;> rfl, by cases h.clock <;> rfl, ?_⟩
    rcases h.laneLastUsed with _ | _ | _ <;> rfl
  case groups =>
    exact List.map_congr_left fun g _ => by cases h.groupStates.pick g <;> cases h.groupSenses.pick g <;> rfl

theorem Digest.bytes_eq (d : Digest) : d.bytes = digestLayout d := by
  simp only [Digest.bytes, digestLayout, flagByte_eq, portByte_eq, bytesOfInt16, bytesOf16_ofInt, byte_eq_field]
  refine congrArg₂ (· ++ ·) (congrArg₂ (· ++ ·) (congrArg₂ (· ++ ·) (congrArg₂ (· ++ ·) (congrArg₂ (· ++ ·)
    rfl ?peak) rfl) rfl) rfl) rfl
  case peak =>
    rw [← BitVec.ofInt_natCast, bytesOf24_ofInt]
    cases d.report.lastPeak <;> rfl

theorem SlotValue.bytes_eq (v : SlotValue) : v.bytes = valueLayout v := by
  cases v with
  | fix16 v => exact bytesOf16_ofInt v
  | fix24 v => exact bytesOf24_ofInt v
  | flt32 b => exact bytesOf32_eq b

theorem Response.bytes_eq (r : Response) : r.bytes = responseLayout r := by
  have outcome : r.outcome.code = outcomeLayout r.outcome := by cases r.outcome <;> rfl
  rw [Response.bytes, withCrc_eq, bytesOfInt16, bytesOf16_ofInt, outcome]

/-- The bytes of every downlink copy are those of its layout (R152, R153). -/
theorem DownlinkCopy.bytes_eq (c : DownlinkCopy) : c.bytes = copyLayout c := by
  have values : SlotValue.bytes = valueLayout := funext SlotValue.bytes_eq
  have responses : Response.bytes = responseLayout := funext Response.bytes_eq
  simp only [DownlinkCopy.bytes, copyLayout, withCrc_eq, Header.bytes_eq, Digest.bytes_eq, values, responses]

end Sys2Proof.Machine
end

section
/-! The statement on the downlink of a cycle start that takes no request: what the blocks' work of the cycle start
leaves for the downlink to report, then its header, digest and bytes. -/

namespace Sys2Proof.Machine

open Sys2Proof.Safety Sys2Proof.Claims

/-! ### The blocks' work of a cycle start, as the downlink sees it -/

theorem Store.noteInput_keeps (st : Store) (i : InputNo) (x y : Preamp) :
    (st.noteInput i x y).position = st.position ∧ (st.noteInput i x y).factoryPort = st.factoryPort := by
  unfold Store.noteInput
  dsimp only
  constructor <;> (split <;> split <;> rfl)

/-- The changes of a cycle start leave the switch and the accepted FACTORY as they are. -/
theorem Store.foldl_noteInput_keeps (before after : InputNo → Preamp) (l : List InputNo) (st : Store) :
    (l.foldl (fun st i => st.noteInput i (before i) (after i)) st).position = st.position ∧
    (l.foldl (fun st i => st.noteInput i (before i) (after i)) st).factoryPort = st.factoryPort := by
  induction l generalizing st with
  | nil => exact ⟨rfl, rfl⟩
  | cons i l ih =>
    obtain ⟨position, port⟩ := ih (st.noteInput i (before i) (after i))
    obtain ⟨position', port'⟩ := st.noteInput_keeps i (before i) (after i)
    exact ⟨position.trans position', port.trans port'⟩

/-- `u` reports like `s`: what the header and the digest read is unchanged, but for the count, the CLIP stickies, the
maps and the store's dirty flag. -/
structure ReportsLike (s u : State) : Prop where
  clock : u.clock = s.clock
  position : u.store.position = s.store.position
  factoryPort : u.store.factoryPort = s.store.factoryPort
  links : u.links = s.links
  watches : u.watches = s.watches
  groups : u.frontEnd.groups = s.frontEnd.groups
  ovl : u.frontEnd.ovl = s.frontEnd.ovl
  reports : u.frontEnd.reports = s.frontEnd.reports
  gainTarget : ∀ i, (u.input i).gainTarget = (s.input i).gainTarget
  holdings : u.arbiter.holdings = s.arbiter.holdings
  linked : u.arbiter.linked = s.arbiter.linked
  handed : u.arbiter.handed = s.arbiter.handed
  samples : u.level.samples = s.level.samples
  rounding : u.level.rounding = s.level.rounding
  void : u.level.void = s.level.void

theorem ReportsLike.trans {s t u : State} (h : ReportsLike s t) (h' : ReportsLike t u) : ReportsLike s u where
  clock := h'.clock.trans h.clock
  position := h'.position.trans h.position
  factoryPort := h'.factoryPort.trans h.factoryPort
  links := h'.links.trans h.links
  watches := h'.watches.trans h.watches
  groups := h'.groups.trans h.groups
  ovl := h'.ovl.trans h.ovl
  reports := h'.reports.trans h.reports
  gainTarget i := (h'.gainTarget i).trans (h.gainTarget i)
  holdings := h'.holdings.trans h.holdings
  linked := h'.linked.trans h.linked
  handed := h'.handed.trans h.handed
  samples := h'.samples.trans h.samples
  rounding := h'.rounding.trans h.rounding
  void := h'.void.trans h.void

theorem reportsLike_moved {s : State} {x : Vector Preamp 32} {st : Store} (position : st.position = s.store.position)
    (factoryPort : st.factoryPort = s.store.factoryPort)
    (target : ∀ i, (x.pick i).gainTarget = (s.input i).gainTarget) :
    ReportsLike s { s with frontEnd := { s.frontEnd with inputs := x }, store := st } :=
  ⟨rfl, position, factoryPort, rfl, rfl, rfl, rfl, rfl, target, rfl, rfl, rfl, rfl, rfl, rfl⟩

theorem reportsLike_startFrontEnd (s : State) : ReportsLike s s.startFrontEnd := by
  obtain ⟨position, factoryPort⟩ := Store.foldl_noteInput_keeps s.input s.startedInput allInputs s.store
  unfold State.startFrontEnd
  refine reportsLike_moved position factoryPort fun i => ?_
  rw [Vector.pick_fill]
  exact congrArg Prod.fst (Preamp.startCycle_requested (s.input i) _ s.clock.state.acquiring)

theorem reportsLike_settleClip (s : State) : ReportsLike s s.settleClip := by
  cases h : s.level.clipBefore with
  | none => rw [State.settleClip_none h]; constructor <;> intros <;> rfl
  | some b => rw [State.settleClip_some h]; constructor <;> intros <;> rfl

/-- The state of a cycle start before the CLIP stickies follow the maps now live. -/
def State.enterCycle (s : State) : State :=
  ({ s with cycleCount := some s.nextCount }.startFrontEnd.startRecords.startRounding).goLive

theorem State.startBlocks_eq (s : State) : s.startBlocks = s.enterCycle.settleClip := rfl

theorem reportsLike_enterCycle (s : State) : ReportsLike s s.enterCycle := by
  have counted : ReportsLike s { s with cycleCount := some s.nextCount } := by constructor <;> intros <;> rfl
  have live (t : State) : ReportsLike t t.startRecords.startRounding.goLive := by constructor <;> intros <;> rfl
  exact (counted.trans (reportsLike_startFrontEnd _)).trans (live _)

theorem reportsLike_startBlocks (s : State) : ReportsLike s s.startBlocks :=
  (reportsLike_enterCycle s).trans (reportsLike_settleClip _)

/-! ### Maps and CLIP (R84, R97, R111, R115) -/

theorem State.settleClip_mapsOf (s : State) (p : Port) : s.settleClip.mapsOf p = s.mapsOf p := by
  unfold State.settleClip; split <;> rfl

theorem State.enterCycle_mapsOf (s : State) (p : Port) : s.enterCycle.mapsOf p = (s.mapsOf p).goLive :=
  Vector.pick_fill _ _

theorem State.startBlocks_mapsOf (s : State) (p : Port) : s.startBlocks.mapsOf p = (s.mapsOf p).goLive := by
  rw [State.startBlocks_eq, State.settleClip_mapsOf, State.enterCycle_mapsOf]

/-- What saturates in the cycle handed over depends on the hand-over only. -/
theorem ReportsLike.clips {s u : State} (h : ReportsLike s u) (p : Port) (map : SlotMap) (i : InputNo) :
    u.clips p map i = s.clips p map i := by
  simp only [State.clips, h.reports, h.handed, h.rounding, h.samples]

theorem State.clips_eq (s : State) (p : Port) (map : SlotMap) (i : InputNo) :
    s.clips p map i = saturatedBy s p map i := by
  simp only [State.clips, toList_eq_map_pick map, List.any_map]
  cases hv : (s.frontEnd.reports.pick i).causes.any with
  | true =>
    have : isVoid (s.frontEnd.reports.pick i).causes = true := hv
    simp [saturatedBy, this, slotClips]
  | false =>
    have : isVoid (s.frontEnd.reports.pick i).causes = false := hv
    rw [saturatedBy, this, Bool.not_false, Bool.true_and]
    congr 1
    funext k
    cases hk : map.pick k with
    | none => simp [hk]
    | some e =>
      simp [hk, slotClips, toList_eq_map_pick ((s.level.samples.pick i)), List.any_map]
      rfl

/-- The CLIP stickies that the digest reads. -/
theorem State.startBlocks_clip (s : State) (p : Port) (i : InputNo) :
    (s.startBlocks.level.clip.pick p).pick i = clipStands s p i := by
  have before : s.enterCycle.level.clipBefore = s.level.clipBefore := rfl
  have clip : s.enterCycle.level.clip = s.level.clip := rfl
  rw [State.startBlocks_eq]
  cases h : s.level.clipBefore with
  | none => simp [State.settleClip_none (before.trans h), clip, clipStands, h]
  | some b =>
    rw [State.settleClip_some (before.trans h)]
    simp only [State.clipBy_pick, State.enterCycle_mapsOf, PortMaps.goLive_live, (reportsLike_enterCycle s).clips,
      State.clips_eq, clipStands, h]
    rfl

/-! ### No request waits -/

theorem State.takeWaiting_quiet {s : State} (quiet : ∀ p, (s.port p).requests = []) (schedule : List Port) :
    s.takeWaiting schedule = s := by
  have takeOne (p : Port) : s.takeOne p = s := by simp [State.takeOne, quiet p]
  have drain (p : Port) : s.drain p = s := by simp [State.drain, quiet p, State.takes]
  have fold {f : State → Port → State} (hf : ∀ p, f s p = s) (l : List Port) : l.foldl f s = s := by
    induction l with
    | nil => rfl
    | cons p l ih => rw [List.foldl_cons, hf, ih]
  rw [State.takeWaiting, fold takeOne, fold drain]

theorem State.leave_port (s : State) (p : Port) :
    s.leave.port p = { s.port p with responses := (s.port p).responses.drop 4 } := Vector.pick_fill _ _

/-- A cycle start that takes no request and begins no restart forms the downlinks on the state its blocks leave. -/
theorem State.startCycle_quiet {s : State} (quiet : ∀ p, (s.port p).requests = [])
    (noFactory : s.store.factoryPort = none) (schedule : List Port) :
    s.startCycle schedule =
      (s.startBlocks.leave.sendDownlinks s.nextCount (.fill s.startBlocks.leaving)).clearReported
        (digestInput s.nextCount) := by
  have like := reportsLike_startBlocks s
  have waiting (p : Port) : (s.startBlocks.leave.port p).requests = [] := by
    rw [State.leave_port]; simpa only [State.port, like.links] using quiet p
  have factory (t : State) (h : t.store = s.startBlocks.store) (leaving : Vector (List Response) 4) :
      t.factoryLeaves leaving = false := by
    simp [State.factoryLeaves, h, like.factoryPort, noFactory]
  unfold State.startCycle
  dsimp only
  rw [State.takeWaiting_quiet waiting]
  exact if_neg (by simp [factory ((s.startBlocks.leave.sendDownlinks _ _).clearReported _) rfl])

/-! ### Header and digest (R164 to R167) -/

theorem State.nextCount_eq (s : State) : s.nextCount = Claims.nextCount s := by
  cases h : s.cycleCount <;> simp [State.nextCount, Claims.nextCount, h]

theorem State.holds_eq (s : State) (p : Port) (i : InputNo) : s.holds p i = decide (isHolder s p i) := by
  rw [Bool.eq_iff_iff]; simp [State.holds, State.unitOf]

namespace ReportsLike

variable {s u : State}

theorem holding (h : ReportsLike s u) (i : InputNo) : u.holding i = s.holding i := congrArg (·.pick i) h.holdings

theorem linked_pick (h : ReportsLike s u) (k : PairNo) : u.linked k = s.linked k := congrArg (·.pick k) h.linked

theorem watch (h : ReportsLike s u) (p : Port) (w : WatchNo) : u.watch p w = s.watch p w :=
  congrArg (fun x => (x.pick p).pick w) h.watches

theorem group (h : ReportsLike s u) (g : GroupNo) : u.group g = s.group g := congrArg (·.pick g) h.groups

theorem unitOf (h : ReportsLike s u) (i : InputNo) : u.unitOf i = unit s i := by
  simp only [State.unitOf, h.linked_pick]

theorem holds (h : ReportsLike s u) (p : Port) (i : InputNo) : u.holds p i = decide (isHolder s p i) := by
  rw [State.holds_eq]; simp only [isHolder, h.linked_pick, h.holding]

end ReportsLike

theorem digestInput_eq {s : State} {i : InputNo} (h : reported s i) : digestInput (Claims.nextCount s) = i := by
  ext; exact h.symm

theorem PortMaps.goLive_commitPending (m : PortMaps) : m.goLive.commitPending = false := by
  cases h : m.commitPending <;> simp [PortMaps.goLive, h]

theorem PortMaps.goLive_generation (m : PortMaps) :
    m.goLive.generation = if m.commitPending then m.generation + 1 else m.generation := by
  unfold PortMaps.goLive; split <;> rfl

/-- The leaving responses change the links only. -/
theorem State.leave_eq_withLinks (s : State) : ∃ x, s.leave = s.withLinks x := ⟨_, rfl⟩

theorem header_eq (s : State) (p : Port) (leaving : List Response)
    (length : leaving.length = min 4 (s.port p).responses.length) :
    s.startBlocks.leave.header p s.nextCount leaving.length = headerOf s s.startBlocks.store.dirty p := by
  have like := reportsLike_startBlocks s
  have port : s.startBlocks.leave.port p = { s.port p with responses := (s.port p).responses.drop 4 } := by
    rw [State.leave_port, State.port, like.links]; rfl
  have setup : (s.store.position == .setup) = decide (s.store.position = .setup) := by
    cases s.store.position <;> rfl
  obtain ⟨x, left⟩ := s.startBlocks.leave_eq_withLinks
  rw [left] at port ⊢
  simp only [State.header, State.holdingsMask, State.waitingMask, State.watchWord, State.faultWord, port,
    State.withLinks_clock, State.withLinks_store, State.withLinks_mapsOf, State.withLinks_watch, State.withLinks_group,
    State.withLinks_holding, State.withLinks_unitOf, State.withLinks_holds, like.clock, like.position, like.watch,
    like.group, like.holding, like.unitOf, like.holds, setup, length, s.nextCount_eq, s.startBlocks_mapsOf,
    PortMaps.goLive_commitPending, PortMaps.goLive_generation]
  rfl

theorem digest_eq (s : State) (p : Port) (i : InputNo) : s.startBlocks.leave.digest p i = digestOf s p i := by
  have like := reportsLike_startBlocks s
  obtain ⟨x, left⟩ := s.startBlocks.leave_eq_withLinks
  rw [left]
  simp only [State.digest, State.withLinks_holding, State.withLinks_unitOf, State.withLinks_linked,
    State.withLinks_input, State.withLinks_frontEnd, State.withLinks_arbiter, State.withLinks_level, like.holding,
    like.unitOf, like.linked_pick, like.gainTarget, like.reports, like.handed, like.void, like.ovl,
    s.startBlocks_clip]

end Sys2Proof.Machine

namespace Sys2Proof.Proofs

open Sys2Proof.Machine Sys2Proof.Claims

/-- Settles O42: the downlinks are formed on the state that the blocks' work leaves, which reports like the state
before; their bytes are those of the layouts field by field. -/
theorem theDownlinkReportsTheState : Obligations.TheDownlinkReportsTheState := by
  intro s schedule quiet
  obtain ⟨running, quiet, noFactory⟩ := quiet
  have like := reportsLike_startBlocks s
  refine ⟨_, congrArg Host.Outcome.next (State.whenRunning_running _ running), fun p => ?_⟩
  rw [State.startCycle_quiet quiet noFactory]
  have port : s.startBlocks.port p = s.port p := congrArg (·.pick p) like.links
  have leaving : (Vector.fill s.startBlocks.leaving : Vector (List Response) 4).pick p =
      (s.port p).responses.take 4 := by
    rw [Vector.pick_fill, State.leaving, port]; rfl
  refine ⟨s.startBlocks.leave.downlinkCopy p s.nextCount ((s.port p).responses.take 4), ?_, ?_, fun i hi => ?_, rfl,
    DownlinkCopy.bytes_eq _⟩
  · refine (State.sendDownlinks_port _ _ _ p).trans ?_
    rw [State.leave_port, port, leaving]
  · exact header_eq s p _ (by simp)
  · show s.startBlocks.leave.digest p (digestInput s.nextCount) = digestOf s p i
    rw [State.nextCount_eq, digestInput_eq hi, digest_eq]

end Sys2Proof.Proofs
end

section
/-! SUPPORT and the statements on TRIM and MUTE (R60, R61, R63, R77): one edit of a port's own records, written for
every member of a unit and recomputed for the port's standing. -/

namespace Sys2Proof.Machine

open Sys2Proof.Safety Sys2Proof.Claims

/-! ### One record for its standing (R52, R54) -/

theorem State.recompute_eq_forStanding (s : State) (p : Port) (i : InputNo) (r : CompRecord) :
    s.recompute p i r = forStanding s p i r := by
  by_cases h : isHolder s p i
  · rw [State.recompute, State.holds_eq, decide_eq_true h, CompRecord.recompute_holder, forStanding, if_pos h]
  · rw [State.recompute, State.holds_eq, decide_eq_false h, CompRecord.recompute_other, forStanding, if_neg h]
    rfl

/-! ### The port's own records are edited (R60, R63, R77) -/

/-- The record of `p` for `i` is edited by `g` and recomputed: the common shape of `writeTrim` and `writeMute`. -/
def State.editRecord (s : State) (p : Port) (g : CompRecord → CompRecord) (i : InputNo) : State :=
  s.setRecord p i (s.recompute p i (g (s.record p i)))

theorem State.writeTrim_eq_editRecord (s : State) (p : Port) (trim : Int) (i : InputNo) :
    s.writeTrim p trim i = s.editRecord p (fun r => { r with trim := trim }) i := rfl

theorem State.writeMute_eq_editRecord (s : State) (p : Port) (on : Bool) (i : InputNo) :
    s.writeMute p on i = s.editRecord p (fun r => { r with mute := on }) i := rfl

/-- `t` is `s` with the records of `p` for the inputs of `l` edited by `g` and recomputed, and no other change. -/
structure RecordsEdited (s : State) (l : List InputNo) (p : Port) (g : CompRecord → CompRecord) (t : State) :
    Prop where
  frame : SameButHands s t
  holdings : t.arbiter.holdings = s.arbiter.holdings
  record : ∀ q j, t.record q j = if q = p ∧ j ∈ l then s.recompute q j (g (s.record q j)) else s.record q j

namespace RecordsEdited

variable {s t : State} {l : List InputNo} {p : Port} {g : CompRecord → CompRecord}

/-- An edit leaves every port's standing and every E_n, so that later records are recomputed as before it. -/
theorem recompute (c : RecordsEdited s l p g t) (q : Port) (j : InputNo) (r : CompRecord) :
    t.recompute q j r = s.recompute q j r := by
  simp only [State.recompute, State.holds, State.unitOf, State.holding, c.frame.linked, c.frame.effective, c.holdings]

/-- The edited records as the statements write them. -/
theorem record_forStanding {i : InputNo} (c : RecordsEdited s (s.members i) p g t) (hi : s.isLinkedOdd i = false)
    (q : Port) (j : InputNo) :
    t.record q j = if q = p ∧ member s i j then forStanding s p j (g (s.record q j)) else s.record q j := by
  rw [c.record]
  by_cases hq : q = p
  · subst hq; simp only [member_iff hi, State.recompute_eq_forStanding]
  · simp only [hq, false_and, if_false]

end RecordsEdited

theorem recordsEdited_editRecord (s : State) (p : Port) (g : CompRecord → CompRecord) (i : InputNo) :
    RecordsEdited s [i] p g (s.editRecord p g i) := by
  refine ⟨rfl, rfl, fun q j => ?_⟩
  rw [State.editRecord, State.record_setRecord]
  by_cases h : q = p ∧ j = i
  · obtain ⟨rfl, rfl⟩ := h; simp
  · simp [h]

theorem recordsEdited_foldl (s : State) (p : Port) (g : CompRecord → CompRecord) {l : List InputNo} (hl : l.Nodup) :
    RecordsEdited s l p g (l.foldl (fun t j => t.editRecord p g j) s) := by
  induction l generalizing s with
  | nil => exact ⟨.refl s, rfl, fun q j => by simp⟩
  | cons i l ih =>
    obtain ⟨hi, hl⟩ := List.nodup_cons.mp hl
    have first := recordsEdited_editRecord s p g i
    have rest := ih (s.editRecord p g i) hl
    refine ⟨first.frame.trans rest.frame, rest.holdings.trans first.holdings, fun q j => ?_⟩
    rw [List.foldl_cons, rest.record, first.recompute, first.record]
    by_cases h : j = i
    · subst h; simp [hi]
    · simp [h]

/-! ### The decisions of TRIM and MUTE on a unit's own input -/

theorem clampedOutcome_eq_clampCode {lo hi : Int} (h : lo ≤ hi) (a : Half) :
    clampedOutcome lo hi a = clampCode lo hi a := by
  have inside : max lo (min hi a.toInt) = a.toInt ↔ ¬ (a.toInt < lo ∨ hi < a.toInt) := by omega
  simp only [clampedOutcome, clamp_eq h, inside, ite_not]

theorem onOff_none {a : Half} (zero : a.toInt ≠ 0) (one : a.toInt ≠ 1) : onOff a = none := by
  simp [onOff, zero, one]

theorem onOff_some {a : Half} (h : a.toInt = 0 ∨ a.toInt = 1) : onOff a = some (decide (a.toInt = 1)) := by
  rcases h with h | h <;> simp [onOff, h]

/-- TRIM edits the trim of the port's records of every member, whoever holds the unit (R60, R61). -/
theorem decideTrim_unit {s : State} {i : InputNo} (p : Port) (a : Half) (hi : s.isLinkedOdd i = false) :
    ∃ t, RecordsEdited s (s.members i) p (fun r => { r with trim := clampQdb a.toInt }) t ∧
      decideTrim p (target i) a s =
        (t, { outcome := clampCode (-160) 96 a, value := clampQdb a.toInt }) := by
  refine ⟨_, recordsEdited_foldl s p _ (s.members_nodup i), ?_⟩
  simp [decideTrim, inputTarget_target, hi, State.writeTrim_eq_editRecord, clampGain_eq, clampedOutcome_eq_clampCode]

theorem decideMute_badValue {s : State} {i : InputNo} {a : Half} (p : Port) (hi : s.isLinkedOdd i = false)
    (zero : a.toInt ≠ 0) (one : a.toInt ≠ 1) :
    decideMute p (target i) a s = (s, { outcome := .badValue, value := bit (s.record p i).mute }) := by
  simp [decideMute, inputTarget_target, hi, onOff_none zero one, boolValue]

/-- MUTE edits the mute of the port's records of every member, whoever holds the unit (R63). -/
theorem decideMute_unit {s : State} {i : InputNo} {a : Half} (p : Port) (hi : s.isLinkedOdd i = false)
    (h : a.toInt = 0 ∨ a.toInt = 1) :
    ∃ t, RecordsEdited s (s.members i) p (fun r => { r with mute := decide (a.toInt = 1) }) t ∧
      decideMute p (target i) a s = (t, { outcome := .done, value := a.toInt }) := by
  have value : boolValue (decide (a.toInt = 1)) = a.toInt := by rcases h with h | h <;> simp [h, boolValue]
  refine ⟨_, recordsEdited_foldl s p _ (s.members_nodup i), ?_⟩
  simp [decideMute, inputTarget_target, hi, onOff_some h, value, State.writeMute_eq_editRecord]

/-! ### The commands of a ready port -/

theorem exec_trim_ready {s : State} {p : Port} (c : Byte) (a : Half) (h : ready s p) :
    exec (.trim p c a) s = .next ((decideTrim p c a s).1.withLinks
      (answeredLinks s p ((decideTrim p c a s).2.toResponse { kind := 7, target := c, a := a, b := 0 }))) :=
  congrArg Host.Outcome.next (State.whenRunning_request _ h)

theorem exec_mute_ready {s : State} {p : Port} (c : Byte) (a : Half) (h : ready s p) :
    exec (.mute p c a) s = .next ((decideMute p c a s).1.withLinks
      (answeredLinks s p ((decideMute p c a s).2.toResponse { kind := 8, target := c, a := a, b := 0 }))) :=
  congrArg Host.Outcome.next (State.whenRunning_request _ h)

end Sys2Proof.Machine

namespace Sys2Proof.Proofs

open Sys2Proof.Machine Sys2Proof.Safety Sys2Proof.Claims

/-- Settles O14: the decision edits the trim of the port's own records of the members, and each edit recomputes the
record for the port's standing. -/
theorem trimWritesThePortsOwnRecords : Obligations.TrimWritesThePortsOwnRecords := by
  intro s p i a hr hi
  rw [isUnit_iff] at hi
  obtain ⟨t, edited, decided⟩ := decideTrim_unit p a hi
  refine ⟨_, exec_trim_ready _ a hr, ?_⟩
  rw [decided]
  exact ⟨edited.frame.frame, ⟨edited.frame.linkedVec, edited.frame.handed⟩, edited.holdings,
    edited.record_forStanding hi, rfl⟩

/-- Settles O15: an operand other than 0 or 1 is only answered; otherwise the decision edits the mute of the port's own
records of the members, as TRIM does the trim. -/
theorem muteWritesThePortsOwnRecords : Obligations.MuteWritesThePortsOwnRecords := by
  intro s p i a hr hi
  rw [isUnit_iff] at hi
  refine ⟨fun zero one => ?_, fun onOrOff => ?_⟩
  · rw [onlyAnswers, exec_mute_ready _ a hr, decideMute_badValue p hi zero one]; rfl
  · obtain ⟨t, edited, decided⟩ := decideMute_unit p hi onOrOff
    refine ⟨_, exec_mute_ready _ a hr, ?_⟩
    rw [decided]
    exact ⟨edited.frame.frame, ⟨edited.frame.linkedVec, edited.frame.handed⟩, edited.holdings,
      edited.record_forStanding hi, rfl⟩

end Sys2Proof.Proofs
end

section
/-! SUPPORT and the statements on LINK (R71 to R76): its checks in order, the conformance of the odd member block by
block, and unlinking. -/

namespace Sys2Proof.Machine

open Sys2Proof.Safety Sys2Proof.Claims

/-! ### Targets, checks and the store as the statements write them -/

theorem pairTarget_target (k : PairNo) : pairTarget (target k) = some k := by
  have h : (target k).toNat = k.val := by simp only [target, BitVec.toNat_ofNat]; omega
  simp only [pairTarget, h, k.isLt, dif_pos]

theorem boolValue_eq_bit (b : Bool) : boolValue b = bit b := rfl

theorem State.oddIsClear_iff (s : State) (p : Port) (k : PairNo) : s.oddIsClear p k = true ↔ oddClear s p k := by
  simp [State.oddIsClear, oddClear, heldBy]

/-- The store's reaction is the table of R171: no write running and clean or dirty, or a write running that has or has
not yet seen a change. -/
theorem Store.noteChange_eq_noted (st : Store) (edited : StoredFrontEnd) : st.noteChange edited = noted st edited := by
  cases write : st.frontEndWrite with
  | none =>
    cases dirty : st.dirty with
    | false => simp [Store.noteChange_clean st edited write dirty, noted, write, dirty]
    | true => simp [Store.noteChange_dirty st edited write dirty, noted, write, dirty]
  | some w =>
    obtain ⟨record, changed⟩ := w
    cases changed <;> simp [Store.noteChange_writing st edited write, noted, write]

/-! ### The decision of LINK, case by case (R71, R72) -/

section

variable {s : State} {p : Port} {k : PairNo} {a : Half}

theorem decideLink_badValue (zero : a.toInt ≠ 0) (one : a.toInt ≠ 1) :
    decideLink p (target k) a s = (s, { outcome := .badValue, value := bit (s.linked k) }) := by
  simp [decideLink, pairTarget_target, onOff_none zero one, boolValue_eq_bit]

theorem decideLink_on_notHolder (on : a.toInt = 1) (other : ¬ heldBy s (evenOf k) p) :
    decideLink p (target k) a s = (s, { outcome := .notHolder, value := bit (s.linked k) }) := by
  simp [decideLink, pairTarget_target, onOff, on, other, boolValue_eq_bit]

theorem decideLink_on_contested (on : a.toInt = 1) (held : heldBy s (evenOf k) p) (busy : ¬ oddClear s p k) :
    decideLink p (target k) a s = (s, { outcome := .contested, value := bit (s.linked k) }) := by
  rw [← State.oddIsClear_iff] at busy
  simp [decideLink, pairTarget_target, onOff, on, held, busy, boolValue_eq_bit]

theorem decideLink_on_clear (on : a.toInt = 1) (held : heldBy s (evenOf k) p) (clear : oddClear s p k) :
    decideLink p (target k) a s =
      (if s.linked k then s else s.linkPair k p, { outcome := .done, value := 1 }) := by
  rw [← State.oddIsClear_iff] at clear
  simp [decideLink, pairTarget_target, onOff, on, held, clear]

theorem decideLink_off_notHolder (off : a.toInt = 0) (other : ¬ heldBy s (evenOf k) p)
    (taken : (s.holding (evenOf k)).holder ≠ none) :
    decideLink p (target k) a s = (s, { outcome := .notHolder, value := bit (s.linked k) }) := by
  simp [decideLink, pairTarget_target, onOff, off, other, taken, boolValue_eq_bit]

theorem decideLink_off_allowed (off : a.toInt = 0)
    (allowed : heldBy s (evenOf k) p ∨ (s.holding (evenOf k)).holder = none) :
    decideLink p (target k) a s =
      (if s.linked k then s.unlinkPair k else s, { outcome := .done, value := 0 }) := by
  have passes : ¬ ((s.holding (evenOf k)).holder ≠ some p ∧ (s.holding (evenOf k)).holder ≠ none) := by tauto
  simp only [decideLink, pairTarget_target, onOff, off, if_true, if_neg passes]

end

theorem exec_link_ready {s : State} {p : Port} (c : Byte) (a : Half) (h : ready s p) :
    exec (.link p c a) s = .next ((decideLink p c a s).1.withLinks
      (answeredLinks s p ((decideLink p c a s).2.toResponse { kind := 9, target := c, a := a, b := 0 }))) :=
  congrArg Host.Outcome.next (State.whenRunning_request _ h)

/-- A LINK whose decision is an answer alone leaves everything but the port's responses. -/
theorem onlyAnswers_link {s : State} {p : Port} {c : Byte} {a : Half} {y : Reply} (h : ready s p)
    (decided : decideLink p c a s = (s, y)) :
    onlyAnswers (.link p c a) s p (y.toResponse { kind := 9, target := c, a := a, b := 0 }) := by
  rw [onlyAnswers, exec_link_ready c a h, decided]; rfl

/-! ### The requested analog state of the odd member (R74) -/

/-- An input that takes the requested analog state of another one. -/
def Preamp.requestedOf (x y : Preamp) : Preamp :=
  { x with gainTarget := y.gainTarget, padRequested := y.padRequested, modeRequested := y.modeRequested }

theorem State.setInput_setInput (s : State) (i : InputNo) (x y : Preamp) :
    (s.setInput i x).setInput i y = s.setInput i y := by simp [State.setInput]

theorem State.setInput_noteChange (s : State) (i : InputNo) (x : Preamp) (e : StoredFrontEnd) :
    (s.setInput i x).noteChange e = (s.noteChange e).setInput i x := rfl

theorem State.requestPad_requestMode (s : State) (i : InputNo) (on : Bool) (m : Mode) :
    (s.requestPad i on).requestMode i m =
      s.setInput i { s.input i with padRequested := on, modeRequested := m } := by
  simp only [State.requestPad, State.requestMode, State.input_setInput, if_true, State.setInput_setInput]

/-- Conforming writes the odd member's entry, and notes the step in the store when it is a new one. -/
theorem State.conformAnalog_eq (s : State) (k : PairNo) :
    s.conformAnalog k =
      { s.setInput (oddOf k) ((s.input (oddOf k)).requestedOf (s.input (evenOf k))) with
        store := if (s.input (oddOf k)).gainTarget = (s.input (evenOf k)).gainTarget then s.store
          else s.store.noteChange { s.store.frontEnd with
            steps := s.store.frontEnd.steps.put (oddOf k) (s.input (evenOf k)).gainTarget } } := by
  rw [State.conformAnalog, State.requestPad_requestMode, State.setGainTarget]
  by_cases same : (s.input (oddOf k)).gainTarget = (s.input (evenOf k)).gainTarget
  · simp only [Preamp.requestedOf, ← same]
    rfl
  · simp only [if_neg same, Preamp.requestedOf, State.noteChange_input, State.input_setInput, if_true]
    rw [← State.setInput_noteChange, State.setInput_setInput]
    rfl

theorem State.conformAnalog_effective (s : State) (k : PairNo) (i : InputNo) :
    (s.conformAnalog k).effective i = s.effective i := by
  have input : (s.conformAnalog k).input i =
      (s.setInput (oddOf k) ((s.input (oddOf k)).requestedOf (s.input (evenOf k)))).input i := by
    rw [State.conformAnalog_eq]; rfl
  rw [State.effective, input, State.input_setInput]
  split
  · next odd => rw [odd]; rfl
  · rfl

theorem State.conformAnalog_arbiter (s : State) (k : PairNo) : (s.conformAnalog k).arbiter = s.arbiter := by
  rw [State.conformAnalog_eq]; rfl

/-! ### The records of the odd member (R75) -/

/-- Only records change when the records of some ports for one input are written. -/
theorem State.foldl_setRecord_frame (s : State) (i : InputNo) (f : Port → CompRecord) (l : List Port) :
    { l.foldl (fun t q => t.setRecord q i (f q)) s with
      arbiter := { (l.foldl (fun t q => t.setRecord q i (f q)) s).arbiter with records := s.arbiter.records } } =
      s := by
  induction l generalizing s with
  | nil => rfl
  | cons q l ih =>
    exact congrArg (fun x : State => { x with arbiter := { x.arbiter with records := s.arbiter.records } })
      (ih (s.setRecord q i (f q)))

theorem State.foldl_setRecord_record (s : State) (i : InputNo) (f : Port → CompRecord) (l : List Port) (q : Port)
    (j : InputNo) :
    (l.foldl (fun t q => t.setRecord q i (f q)) s).record q j = if q ∈ l ∧ j = i then f q else s.record q j := by
  induction l generalizing s with
  | nil => simp
  | cons r l ih =>
    rw [List.foldl_cons, ih, State.record_setRecord]
    by_cases first : q = r
    · subst first; simp +contextual
    · simp [first]

theorem State.copyRecords_frame (s : State) (k : PairNo) (p : Port) :
    { s.copyRecords k p with arbiter := { (s.copyRecords k p).arbiter with records := s.arbiter.records } } = s :=
  s.foldl_setRecord_frame (oddOf k) (s.copiedRecord k p) allPorts

theorem State.copyRecords_record (s : State) (k : PairNo) (p q : Port) (j : InputNo) :
    (s.copyRecords k p).record q j = if j = oddOf k then s.copiedRecord k p q else s.record q j := by
  rw [State.copyRecords, State.foldl_setRecord_record]
  simp [allPorts]

/-- The copied record as the statement writes it: the holder's, anchored at the odd member's E_n, or a non-holder's. -/
theorem State.copiedRecord_eq (s : State) (k : PairNo) (p q : Port) :
    s.copiedRecord k p q =
      let r := { s.record q (oddOf k) with
        trim := (s.record q (evenOf k)).trim, mute := (s.record q (evenOf k)).mute }
      if q = p then asHolder { r with anchor := s.effective (oddOf k) }
      else asNonHolder { r with anchor := (s.record q (evenOf k)).anchor } (s.effective (oddOf k)) := by
  by_cases own : q = p
  · simp [State.copiedRecord, own, CompRecord.recompute_holder]
  · simp only [State.copiedRecord, own, beq_false_of_ne own, if_false, CompRecord.recompute_other]

/-! ### The pair is linked (R73 to R75), or becomes two units (R76) -/

theorem State.relink_eq (s : State) (k : PairNo) (on : Bool) :
    s.relink k on =
      { s with
        arbiter := { s.arbiter with
          linked := s.arbiter.linked.put k on
          holdings := s.arbiter.holdings.put (oddOf k) { holder := (s.holding (evenOf k)).holder, queue := [] } }
        store := noted s.store { s.store.frontEnd with linked := s.store.frontEnd.linked.put k on } } := by
  rw [← Store.noteChange_eq_noted]; rfl

theorem State.unlinkPair_eq_relink (s : State) (k : PairNo) : s.unlinkPair k = s.relink k false := rfl

/-- The pair is linked and its odd member conformed, its records not yet copied (R73, R74). -/
def State.conformed (s : State) (k : PairNo) : State := (s.relink k true).conformAnalog k

theorem State.linkPair_eq {s : State} {k : PairNo} {p : Port} (held : heldBy s (evenOf k) p) :
    s.linkPair k p = (s.conformed k).copyRecords k p := by
  rw [State.conformed, State.relink, held]; rfl

/-- Link state and step are noted in one event, the step only when it is a new one (R171). -/
theorem State.conformed_store (s : State) (k : PairNo) :
    (s.conformed k).store = noted s.store { s.store.frontEnd with
      linked := s.store.frontEnd.linked.put k true
      steps := if (s.input (oddOf k)).gainTarget = (s.input (evenOf k)).gainTarget then s.store.frontEnd.steps
        else s.store.frontEnd.steps.put (oddOf k) (s.input (evenOf k)).gainTarget } := by
  rw [← Store.noteChange_eq_noted, State.conformed, State.conformAnalog_eq]
  by_cases same : (s.input (oddOf k)).gainTarget = (s.input (evenOf k)).gainTarget
  · rw [if_pos same]
    exact if_pos same
  · rw [if_neg same]
    exact (if_neg same).trans (Store.noteChange_noteChange _ _ _)

theorem State.conformed_record (s : State) (k : PairNo) (q : Port) (j : InputNo) :
    (s.conformed k).record q j = s.record q j := by
  rw [State.record, State.conformed, State.conformAnalog_arbiter]; rfl

theorem State.conformed_effective (s : State) (k : PairNo) (i : InputNo) :
    (s.conformed k).effective i = s.effective i := State.conformAnalog_effective _ k i

theorem State.linkPair_record {s : State} {k : PairNo} {p : Port} (held : heldBy s (evenOf k) p) (q : Port)
    (j : InputNo) :
    (s.linkPair k p).record q j = if j = oddOf k then s.copiedRecord k p q else s.record q j := by
  rw [State.linkPair_eq held, State.copyRecords_record, State.conformed_record]
  simp only [State.copiedRecord, State.conformed_record, State.conformed_effective]

/-- What linking a pair leaves but for the records: the front end with the odd member conformed, the arbiter with the
pair linked and its odd member held, and the store with both changes noted. -/
theorem State.linkPair_frame {s : State} {k : PairNo} {p : Port} (held : heldBy s (evenOf k) p) :
    { s.linkPair k p with arbiter := { (s.linkPair k p).arbiter with records := s.arbiter.records } } =
      { s with
        frontEnd := { s.frontEnd with
          inputs := s.frontEnd.inputs.put (oddOf k) ((s.input (oddOf k)).requestedOf (s.input (evenOf k))) }
        arbiter := { s.arbiter with
          linked := s.arbiter.linked.put k true
          holdings := s.arbiter.holdings.put (oddOf k) { holder := some p, queue := [] } }
        store := (s.conformed k).store } := by
  have copied := State.copyRecords_frame (s.conformed k) k p
  have records : (s.conformed k).arbiter.records = s.arbiter.records := by
    rw [State.conformed, State.conformAnalog_arbiter]; rfl
  rw [records, ← State.linkPair_eq held] at copied
  rw [copied, State.conformed, State.conformAnalog_eq, ← held]
  rfl

end Sys2Proof.Machine

namespace Sys2Proof.Proofs

open Sys2Proof.Machine Sys2Proof.Safety Sys2Proof.Claims

/-- Settles O16: in each case the decision of LINK is an answer alone. -/
theorem linkIsCheckedInOrder : Obligations.LinkIsCheckedInOrder := by
  intro s p k a hr
  refine ⟨fun zero one => onlyAnswers_link hr (decideLink_badValue zero one),
    fun on other => onlyAnswers_link hr (decideLink_on_notHolder on other),
    fun on held busy => onlyAnswers_link hr (decideLink_on_contested on held busy),
    fun on held clear linked => ?_,
    fun off other taken => onlyAnswers_link hr (decideLink_off_notHolder off other taken),
    fun off allowed unlinked => ?_⟩
  · have decided := decideLink_on_clear on held clear
    rw [if_pos linked] at decided
    rw [linked]
    exact onlyAnswers_link hr decided
  · have decided := decideLink_off_allowed off allowed
    rw [unlinked, if_neg Bool.false_ne_true] at decided
    rw [unlinked]
    exact onlyAnswers_link hr decided

/-- Settles O17: the decision links the pair, whose next state is known but for the records, and the records are those
copied from the even member. -/
theorem linkOnConformsTheOddMember : Obligations.LinkOnConformsTheOddMember := by
  intro s p k hr unlinked held clear
  have decided := decideLink_on_clear (a := 1) (by decide) held clear
  rw [unlinked, if_neg Bool.false_ne_true] at decided
  have linked := State.linkPair_frame held
  have stored := (congrArg State.store linked).trans (s.conformed_store k)
  refine ⟨_, exec_link_ready _ _ hr, ?_⟩
  rw [decided]
  refine ⟨?_, ?_, ?_, ?_, ?_, ?_, fun q j => ?_, stored, rfl⟩
  · exact congrArg (fun x : State =>
      { x with frontEnd := s.frontEnd, arbiter := s.arbiter, store := s.store, links := s.links }) linked
  · exact congrArg (·.arbiter.handed) linked
  · exact congrArg (·.arbiter.linked) linked
  · exact congrArg (·.arbiter.holdings) linked
  · exact congrArg (fun x : State => { x.frontEnd with inputs := s.frontEnd.inputs }) linked
  · exact congrArg (·.frontEnd.inputs) linked
  · rw [State.withLinks_record, State.linkPair_record held, State.copiedRecord_eq, ite_not]
    rfl

/-- Settles O18: the decision unlinks the pair. -/
theorem linkOffMakesTwoUnits : Obligations.LinkOffMakesTwoUnits := by
  intro s p k hr linked allowed
  have decided := decideLink_off_allowed (a := 0) (by decide) allowed
  rw [if_pos linked, State.unlinkPair_eq_relink, State.relink_eq] at decided
  rw [exec_link_ready _ _ hr, decided]
  rfl

end Sys2Proof.Proofs
end

section
/-! The statements on the coefficient table (R85) and on ROUND (R94). -/

namespace Sys2Proof.Machine

open Sys2Proof.Claims

/-! ### The coefficient table (R85) -/

/-- `c` is 2^20 x 10^((k - 160)/80) rounded to the nearest integer, a half up, without the root: both sides of the
rounding are raised to the 80th power and cleared of denominators. -/
abbrev followsTableLaw (k c : Nat) : Prop :=
  (2 * c - 1) ^ 80 * 10 ^ 160 ≤ 2 ^ 1680 * 10 ^ k ∧ 2 ^ 1680 * 10 ^ k < (2 * c + 1) ^ 80 * 10 ^ 160

/-- The table is data, so that its law is checked entry by entry. -/
theorem coefficientTable_law : ∀ k < 257, followsTableLaw k (coefficientTable.getD k 0) := by decide +kernel

theorem coefficientTable_increasing : ∀ k < 256, coefficientTable.getD k 0 < coefficientTable.getD (k + 1) 0 := by
  decide +kernel

theorem coefficient_sub_160 (k : Nat) : coefficient ((k : Int) - 160) = coefficientTable.getD k 0 := by
  rw [coefficient, show ((k : Int) - 160 + 160).toNat = k by omega]

/-! ### The decision of ROUND (R94) -/

theorem Rounding.code_eq_roundCode (m : Rounding) : ((m.code : Nat) : Int) = roundCode m := by cases m <;> rfl

theorem roundingOperand_none {a : Half} (h : a.toInt ∉ [0, 1, 2]) : roundingOperand a = none := by
  simp only [List.mem_cons, List.not_mem_nil, or_false, not_or] at h
  obtain ⟨zero, one, two⟩ := h
  simp [roundingOperand, zero, one, two]

theorem roundingOperand_some {a : Half} {m : Rounding} (h : roundCode m = a.toInt) : roundingOperand a = some m := by
  cases m <;> simp [roundingOperand, ← h]

theorem exec_round_ready {s : State} {p : Port} (c : Byte) (a : Half) (h : ready s p) :
    exec (.round p c a) s = .next ((decideRound p a s).1.withLinks
      (answeredLinks s p ((decideRound p a s).2.toResponse { kind := 12, target := c, a := a, b := 0 }))) :=
  congrArg Host.Outcome.next (State.whenRunning_request _ h)

theorem decideRound_badValue {s : State} {p : Port} {a : Half} (h : a.toInt ∉ [0, 1, 2]) :
    decideRound p a s = (s, { outcome := .badValue, value := roundCode (s.level.requested.pick p) }) := by
  simp only [decideRound, roundingOperand_none h, Rounding.code_eq_roundCode]

theorem decideRound_done {s : State} {p : Port} {a : Half} {m : Rounding} (h : roundCode m = a.toInt) :
    decideRound p a s = ({ s with level := { s.level with requested := s.level.requested.put p m } },
      { outcome := .done, value := a.toInt }) := by
  simp only [decideRound, roundingOperand_some h, Rounding.code_eq_roundCode, h]

end Sys2Proof.Machine

namespace Sys2Proof.Proofs

open Sys2Proof.Machine Sys2Proof.Claims

/-- Settles O47: the law of the table's entries, and their order, read at the gains from -160 up. -/
theorem coefficientsFollowTheTableLaw : Obligations.CoefficientsFollowTheTableLaw := by
  intro k hk
  obtain ⟨lower, upper⟩ := coefficientTable_law k (by omega)
  have next : coefficient ((k : Int) - 159) = coefficientTable.getD (k + 1) 0 := by
    rw [← coefficient_sub_160, show ((k : Int) - 159) = ((k + 1 : Nat) : Int) - 160 by omega]
  rw [next, coefficient_sub_160]
  exact ⟨lower, upper, coefficientTable_increasing k⟩

/-- Settles O21: an operand that is no mode's code is only answered; a mode's code sets the mode requested. -/
theorem roundSetsTheModeRequested : Obligations.RoundSetsTheModeRequested := by
  intro s p t a hr
  refine ⟨fun outside => ?_, fun m hm => ?_⟩
  · rw [onlyAnswers, exec_round_ready t a hr, decideRound_badValue outside]; rfl
  · rw [exec_round_ready t a hr, decideRound_done hm]; rfl

end Sys2Proof.Proofs
end

section
/-! The statement on the conversions to FIX16 and FIX24 (R89 to R91): the quotient rounded in each mode, then brought
into range. -/

namespace Sys2Proof.Machine

open Sys2Proof.Claims

/-! ### The rounded quotient (R90) -/

variable {d : Int}

theorem roundsTo_roundNearest (p : Int) (hd : 0 < d) : roundsTo .nearest p d (roundNearest p d) := by
  have division := Int.emod_add_mul_ediv p d
  have nonneg := Int.emod_nonneg p hd.ne'
  have below := Int.emod_lt_of_pos p hd
  have up : p - d * (p / d + 1) = p % d - d := by rw [mul_add]; omega
  have down : p - d * (p / d) = p % d := by omega
  unfold roundNearest
  dsimp only [roundsTo]
  split
  · rw [down, abs_of_nonneg nonneg]; omega
  split
  · rw [up, abs_of_neg (by omega)]; omega
  split
  · next even => rw [down, abs_of_nonneg nonneg]; omega
  · rw [up, abs_of_neg (by omega)]; omega

theorem roundsTo_tdiv (p : Int) (hd : 0 < d) : roundsTo .towardZero p d (p.tdiv d) := by
  have division := Int.tmod_add_mul_tdiv p d
  have off : p - d * p.tdiv d = p.tmod d := by omega
  dsimp only [roundsTo]
  rw [off]
  rcases Int.le_total 0 p with h | h
  · have quotient := Int.tdiv_nonneg h hd.le
    have rest := Int.tmod_nonneg d h
    have below := Int.tmod_lt_of_pos p hd
    have product := mul_nonneg hd.le quotient
    rw [abs_of_nonneg h, abs_of_nonneg product, abs_of_nonneg rest]
    exact ⟨by omega, below, mul_nonneg h quotient⟩
  · obtain ⟨n, rfl⟩ : ∃ n, p = -n := ⟨-p, by omega⟩
    have quotient := Int.tdiv_nonneg (a := n) (by omega) hd.le
    have rest := Int.tmod_nonneg (a := n) d (by omega)
    have below := Int.tmod_lt_of_pos n hd
    have product := mul_nonneg hd.le quotient
    rw [Int.neg_tdiv, Int.neg_tmod] at division ⊢
    rw [mul_neg, abs_neg, abs_neg, abs_neg, abs_of_nonneg product, abs_of_nonneg rest, neg_mul_neg,
      abs_of_nonneg (a := n) (by omega)]
    exact ⟨by rw [mul_neg] at division; omega, below, mul_nonneg (by omega) quotient⟩

theorem roundsTo_ediv (p : Int) (hd : 0 < d) : roundsTo .floor p d (p / d) := by
  have division := Int.emod_add_mul_ediv p d
  have nonneg := Int.emod_nonneg p hd.ne'
  have below := Int.emod_lt_of_pos p hd
  dsimp only [roundsTo]
  rw [mul_add]
  omega

/-- Each mode rounds the quotient as R90 says. -/
theorem roundsTo_roundQuotient (m : Rounding) (p : Int) (hd : 0 < d) : roundsTo m p d (roundQuotient m p d) := by
  cases m with
  | nearest => exact roundsTo_roundNearest p hd
  | towardZero => exact roundsTo_tdiv p hd
  | floor => exact roundsTo_ediv p hd

/-! ### Saturation (R91) -/

/-- A value is changed by the clamp exactly when it lies outside the range. -/
theorem clamp_bne_iff {lo hi : Int} (h : lo ≤ hi) (n : Int) : (clamp lo hi n != n) = true ↔ n < lo ∨ hi < n := by
  rw [bne_iff_ne, clamp_eq h]; omega

end Sys2Proof.Machine

namespace Sys2Proof.Proofs

open Sys2Proof.Machine Sys2Proof.Claims

/-- Settles O45: the raw values are the rounded quotients, and the clamp changes one exactly outside the range. -/
theorem fixValuesAreRoundedAndSaturated : Obligations.FixValuesAreRoundedAndSaturated := by
  intro m p
  refine ⟨⟨fix16Raw m p, roundsTo_roundQuotient m p (by decide), ?_, clamp_bne_iff (by decide) _⟩,
    ⟨fix24Raw m p, roundsTo_roundQuotient m p (by decide), ?_, clamp_bne_iff (by decide) _⟩⟩
  · exact congrArg SlotValue.fix16 (clamp_eq (by decide) _)
  · exact congrArg SlotValue.fix24 (clamp_eq (by decide) _)

end Sys2Proof.Proofs
end

section
/-! The statement on the conversion to FLT32 (R92, R153): the significand is a rounded quotient, the bits carry it with
its exponent, and no number of 24 significant bits lies nearer. -/

namespace Sys2Proof.Machine

open Sys2Proof.Claims

/-! ### The nearest multiple -/

/-- A quotient rounded to nearest gives the nearest multiple of the divisor, and a tie with another multiple only where
the rounded quotient is even. -/
theorem roundsTo_nearest_le {x d n : Int} (hd : 0 < d) (h : roundsTo .nearest x d n) (k : Int) :
    |x - d * n| ≤ |x - d * k| ∧ (|x - d * n| = |x - d * k| → d * k ≠ d * n → n % 2 = 0) := by
  obtain ⟨near, even⟩ := h
  by_cases same : k = n
  · subst same; exact ⟨le_rfl, fun _ other => absurd rfl other⟩
  have apart : d ≤ |d * k - d * n| := by
    rw [← mul_sub, abs_mul, abs_of_pos hd]
    exact le_mul_of_one_le_right hd.le (Int.one_le_abs (sub_ne_zero.mpr same))
  have triangle : |d * k - d * n| ≤ |x - d * n| + |x - d * k| := by
    rw [abs_sub_comm x (d * k), add_comm]; exact abs_sub_le _ x _
  exact ⟨by omega, fun tie _ => even (by omega)⟩

/-- A rounded quotient is that of both members multiplied. -/
theorem roundsTo_nearest_mul {x d n c : Int} (hc : 0 < c) (h : roundsTo .nearest x d n) :
    roundsTo .nearest (x * c) (d * c) n := by
  obtain ⟨near, even⟩ := h
  have scaled : 2 * |x * c - d * c * n| = 2 * |x - d * n| * c := by
    rw [show x * c - d * c * n = (x - d * n) * c by ring, abs_mul, abs_of_pos hc, mul_assoc]
  dsimp only [roundsTo]
  rw [scaled]
  exact ⟨mul_le_mul_of_nonneg_right near hc.le, fun tie => even (mul_right_cancel₀ hc.ne' tie)⟩

/-! ### The significand (R92) -/

/-- The significand of a magnitude: its leading 24 bits, rounded to nearest; 2^24 where the rounding carries. -/
def significandOf (m : Nat) : Nat :=
  if Nat.log2 m ≤ 23 then m * 2 ^ (23 - Nat.log2 m) else (roundNearest m (2 ^ (Nat.log2 m - 23))).toNat

/-- In the scale of the statement the significand is the magnitude's quotient by 2^e, rounded to nearest. -/
theorem roundsTo_significandOf (m : Nat) :
    roundsTo .nearest ((m : Int) * 2 ^ 23) (2 ^ Nat.log2 m) (significandOf m) := by
  unfold significandOf
  split
  · next small =>
    have unrounded : (m : Int) * 2 ^ 23 - 2 ^ Nat.log2 m * (m * 2 ^ (23 - Nat.log2 m) : Nat) = 0 := by
      rw [Nat.cast_mul, Nat.cast_pow, mul_left_comm, Nat.cast_ofNat, ← pow_add, Nat.add_sub_cancel' small, sub_self]
    have positive : (0 : Int) < 2 ^ Nat.log2 m := by positivity
    dsimp only [roundsTo]
    rw [unrounded, abs_zero]
    exact ⟨by omega, fun tie => by omega⟩
  · next large =>
    have positive : (0 : Int) < 2 ^ (Nat.log2 m - 23) := by positivity
    have rounded := roundsTo_roundNearest (m : Int) positive
    have nonneg : 0 ≤ roundNearest (m : Int) (2 ^ (Nat.log2 m - 23)) := by
      have := Int.ediv_nonneg (Int.natCast_nonneg m) positive.le
      unfold roundNearest
      dsimp only
      repeat' split
      all_goals omega
    rw [Int.toNat_of_nonneg nonneg]
    have scaled := roundsTo_nearest_mul (c := 2 ^ 23) (by decide) rounded
    rwa [← pow_add, Nat.sub_add_cancel (by omega)] at scaled

/-- The significand has 24 bits, or is 2^24: half a unit off the magnitude, it cannot be further out. -/
theorem significandOf_range {m : Nat} (hm : m ≠ 0) : 2 ^ 23 ≤ significandOf m ∧ significandOf m ≤ 2 ^ 24 := by
  have lower : (2 ^ Nat.log2 m : Int) ≤ m := by exact_mod_cast Nat.log2_self_le hm
  have upper : (m : Int) < 2 * 2 ^ Nat.log2 m := by
    have : m < 2 ^ (Nat.log2 m + 1) := Nat.lt_log2_self
    rw [← pow_succ']
    exact_mod_cast this
  have unit : (0 : Int) < 2 ^ Nat.log2 m := by positivity
  obtain ⟨near, -⟩ := roundsTo_significandOf m
  generalize (2 ^ Nat.log2 m : Int) = d at *
  obtain ⟨above, below⟩ := abs_le.mp (show |(m : Int) * 2 ^ 23 - d * significandOf m| ≤ d - 1 by omega)
  constructor
  · by_contra short
    have : d * (significandOf m : Int) ≤ d * (2 ^ 23 - 1) := mul_le_mul_of_nonneg_left (by omega) unit.le
    omega
  · by_contra long
    have : d * (2 ^ 24 + 1) ≤ d * (significandOf m : Int) := mul_le_mul_of_nonneg_left (by omega) unit.le
    omega

/-- No number of 24 significant bits lies nearer than the rounded significand in its place: one of the same exponent or
more is a multiple of the unit, and one of a smaller exponent lies below the least magnitude of this one. -/
theorem significandOf_nearest {m : Nat} (hm : m ≠ 0) {e g : Nat} (high : g < 2 ^ 24) :
    let v : Int := 2 ^ Nat.log2 m * significandOf m
    let w : Int := g * 2 ^ e
    |(m : Int) * 2 ^ 23 - v| ≤ |(m : Int) * 2 ^ 23 - w| ∧
    (|(m : Int) * 2 ^ 23 - v| = |(m : Int) * 2 ^ 23 - w| → w ≠ v → significandOf m % 2 = 0) := by
  have nearest := roundsTo_nearest_le (by positivity) (roundsTo_significandOf m)
  dsimp only
  by_cases multiple : Nat.log2 m ≤ e
  · have w : (g : Int) * 2 ^ e = 2 ^ Nat.log2 m * (g * 2 ^ (e - Nat.log2 m)) := by
      rw [mul_left_comm, ← pow_add, Nat.add_sub_cancel' multiple]
    obtain ⟨le, tie⟩ := nearest (g * 2 ^ (e - Nat.log2 m))
    rw [w]
    exact ⟨le, fun eq other => by have := tie eq other; omega⟩
  · have least : (2 ^ Nat.log2 m : Int) ≤ m := by exact_mod_cast Nat.log2_self_le hm
    have below : (g : Int) * 2 ^ e < 2 ^ Nat.log2 m * 2 ^ 23 := by
      have double : 2 * 2 ^ e ≤ 2 ^ Nat.log2 m := by
        rw [← pow_succ']; exact Nat.pow_le_pow_right (by decide) (by omega)
      have : g * 2 ^ e < 2 ^ 24 * 2 ^ e := Nat.mul_lt_mul_of_pos_right high (by positivity)
      exact_mod_cast (show g * 2 ^ e < 2 ^ Nat.log2 m * 2 ^ 23 by omega)
    obtain ⟨le, -⟩ := nearest (2 ^ 23)
    rw [abs_of_nonneg (a := (m : Int) * 2 ^ 23 - 2 ^ Nat.log2 m * 2 ^ 23) (by omega)] at le
    rw [abs_of_nonneg (a := (m : Int) * 2 ^ 23 - g * 2 ^ e) (by omega)]
    exact ⟨by omega, fun eq => by omega⟩

/-! ### The bits (R153) -/

/-- The exponent field of the 32 bits. -/
abbrev exponentField (bits : BitVec 32) : Nat := bits.toNat / 2 ^ 23 % 256

/-- The significand the 32 bits of a normal number stand for, with its hidden bit. -/
abbrev significandField (bits : BitVec 32) : Nat := 2 ^ 23 + bits.toNat % 2 ^ 23

/-- Sign, exponent field and fraction put together are read back. -/
theorem fields_ofNat {p : Int} {exponent fraction : Nat} (he : exponent < 256) (hf : fraction < 2 ^ 23) :
    let bits := BitVec.ofNat 32 ((if p < 0 then 2 ^ 31 else 0) + exponent * 2 ^ 23 + fraction)
    (bits.msb = true ↔ p < 0) ∧ exponentField bits = exponent ∧ significandField bits = 2 ^ 23 + fraction := by
  dsimp only
  simp only [exponentField, significandField, BitVec.msb_eq_decide, decide_eq_true_iff, BitVec.toNat_ofNat]
  split <;> omega

theorem flt32Bits_zero : flt32Bits 0 = 0 := rfl

/-- Sign, exponent field and fraction of a product other than 0: a carry out of the significand raises the exponent. -/
theorem flt32Bits_eq {p : Int} (hp : p ≠ 0) :
    flt32Bits p = BitVec.ofNat 32 ((if p < 0 then 2 ^ 31 else 0) +
      (Nat.log2 p.natAbs + (if significandOf p.natAbs = 2 ^ 24 then 1 else 0) + 84) * 2 ^ 23 +
      (if significandOf p.natAbs = 2 ^ 24 then 0 else significandOf p.natAbs - 2 ^ 23)) := by
  rw [flt32Bits, if_neg hp]; rfl

/-- What the bits of a product stand for: its sign, a normal number's exponent, and the rounded significand in its
place; after a carry the significand they hold is even, as the one that carried. -/
theorem flt32Bits_stands {p : Int} (hp : p ≠ 0) (small : Nat.log2 p.natAbs ≤ 46) :
    ((flt32Bits p).msb = true ↔ p < 0) ∧
    84 ≤ exponentField (flt32Bits p) ∧ exponentField (flt32Bits p) ≤ 254 ∧
    (significandField (flt32Bits p) : Int) * 2 ^ (exponentField (flt32Bits p) - 84) =
      2 ^ Nat.log2 p.natAbs * significandOf p.natAbs ∧
    (significandOf p.natAbs % 2 = 0 → significandField (flt32Bits p) % 2 = 0) := by
  obtain ⟨atLeast, atMost⟩ := significandOf_range (Int.natAbs_ne_zero.mpr hp)
  rw [flt32Bits_eq hp]
  generalize significandOf p.natAbs = sig at *
  generalize Nat.log2 p.natAbs = e at *
  by_cases carry : sig = 2 ^ 24
  · simp only [if_pos carry]
    obtain ⟨sign, exponent, significand⟩ := fields_ofNat (p := p) (show e + 1 + 84 < 256 by omega)
      (show 0 < 2 ^ 23 by decide)
    rw [exponent, significand, show e + 1 + 84 - 84 = e + 1 by omega, carry]
    exact ⟨sign, by omega, by omega, by push_cast; ring, fun _ => rfl⟩
  · simp only [if_neg carry]
    obtain ⟨sign, exponent, significand⟩ := fields_ofNat (p := p) (show e + 0 + 84 < 256 by omega)
      (show sig - 2 ^ 23 < 2 ^ 23 by omega)
    rw [exponent, significand, Nat.add_sub_cancel' atLeast, Nat.add_sub_cancel]
    exact ⟨sign, by omega, by omega, mul_comm _ _, id⟩

end Sys2Proof.Machine

namespace Sys2Proof.Proofs

open Sys2Proof.Machine Sys2Proof.Claims

/-- Settles O46: the bits stand for the magnitude's rounded significand in its place, and no number of 24 significant
bits lies nearer. -/
theorem flt32ValuesAreNearest : Obligations.Flt32ValuesAreNearest := by
  intro m p bound
  refine ⟨congrArg SlotValue.flt32 flt32Bits_zero, rfl, fun hp => ⟨flt32Bits p, rfl, ?_⟩⟩
  rw [Int.abs_eq_natAbs] at bound ⊢
  have nonzero : p.natAbs ≠ 0 := Int.natAbs_ne_zero.mpr hp
  have small : Nat.log2 p.natAbs < 47 := (Nat.log2_lt nonzero).mpr (by omega)
  obtain ⟨sign, normal, finite, value, even⟩ := flt32Bits_stands hp (by omega)
  refine ⟨sign, normal, finite, fun e g _ high => ?_⟩
  obtain ⟨le, tie⟩ := significandOf_nearest nonzero (e := e) high
  rw [← value] at le tie
  exact ⟨le, fun eq other => even (tie eq other)⟩

end Sys2Proof.Proofs
end

section
/-! The statement on the audio segment of a cycle start that takes no request: the blocks of a map as the statements
write them, and the length of a downlink copy. -/

namespace Sys2Proof.Machine

open Sys2Proof.Safety Sys2Proof.Claims

/-! ### The blocks of a map (R84, R88, R95, R113) -/

/-- The non-empty slots of a map, in slot order. -/
abbrev usedSlots (map : SlotMap) : List SlotEntry := (List.finRange 32).filterMap fun k => map.pick k

/-- The 64 values of a slot of the port, from what was handed over at the last cycle end. -/
abbrev slotAudio (s : State) (p : Port) (e : SlotEntry) : List SlotValue :=
  (List.finRange 64).map fun n =>
    if isVoid (s.frontEnd.reports.pick e.input).causes then silence e.format
    else slotValue e.format (s.level.rounding.pick p)
      (productOf ((s.arbiter.handed.pick p).pick e.input) ((s.level.samples.pick e.input).pick n))

theorem product_coefficient (x : Sample) (r : CompRecord) : product x r.coefficient = productOf r x := by
  cases h : r.mute <;> simp [product, CompRecord.coefficient, productOf, h]

theorem zeroValue_eq_silence (f : Format) : zeroValue f = silence f := by cases f <;> rfl

/-- The model's segment of a map is one block for each non-empty slot. -/
theorem State.segment_eq (s : State) (p : Port) (map : SlotMap) :
    s.segment p map = (usedSlots map).map (slotAudio s p) := by
  have block (e : SlotEntry) :
      slotBlock e (s.frontEnd.reports.pick e.input).causes.any ((s.arbiter.handed.pick p).pick e.input).coefficient
        (s.level.rounding.pick p) (s.level.samples.pick e.input) = slotAudio s p e := by
    simp only [slotBlock, toList_eq_map_pick, List.map_map, slotAudio, product_coefficient, zeroValue_eq_silence]
    rfl
  simp only [State.segment, toList_eq_map_pick, List.filterMap_map, List.map_filterMap, block]
  rfl

/-- The blocks depend on the hand-over only, which no block's work of a cycle start changes. -/
theorem ReportsLike.slotAudio {s u : State} (h : ReportsLike s u) (p : Port) : slotAudio u p = slotAudio s p := by
  funext e
  simp only [Machine.slotAudio, h.reports, h.rounding, h.handed, h.samples]

/-! ### Lengths (R89, R104, R152) -/

theorem withTheCrc_length (body : List Byte) : (withTheCrc body).length = body.length + 2 := by
  simp [withTheCrc, field]

theorem headerLayout_length (h : Header) : (headerLayout h).length = 28 := by simp [headerLayout, maskBytes]

theorem digestLayout_length (d : Digest) : (digestLayout d).length = 18 := by simp [digestLayout, field]

theorem responseLayout_length (r : Response) : (responseLayout r).length = 8 := by simp [responseLayout, field]

/-- Lists of one length, joined. -/
theorem flatten_length_of_forall {α β : Type} {f : α → List β} {c : Nat} {l : List α} (h : ∀ a ∈ l, (f a).length = c) :
    (l.map f).flatten.length = l.length * c := by
  have lengths : l.map (List.length ∘ f) = List.replicate l.length c :=
    List.eq_replicate_iff.mpr ⟨List.length_map _, fun n hn => by
      obtain ⟨a, ha, rfl⟩ := List.mem_map.mp hn
      exact h a ha⟩
  rw [List.length_flatten, List.map_map, lengths, List.sum_replicate, smul_eq_mul]

theorem silence_length (f : Format) : (valueLayout (silence f)).length = bytesPerSlot f / 64 := by
  cases f <;> simp [valueLayout, field, bytesPerSlot]

theorem slotValue_length (f : Format) (m : Rounding) (x : Int) :
    (valueLayout (slotValue f m x)).length = bytesPerSlot f / 64 := by
  cases f <;> simp [slotValue, valueLayout, field, bytesPerSlot]

/-- A value takes a 64th of the bytes of its slot. -/
theorem slotAudio_value_length {s : State} {p : Port} {e : SlotEntry} {v : SlotValue} (h : v ∈ slotAudio s p e) :
    (valueLayout v).length = bytesPerSlot e.format / 64 := by
  obtain ⟨n, -, rfl⟩ := List.mem_map.mp h
  split
  · exact silence_length _
  · exact slotValue_length _ _ _

theorem slotAudio_length (s : State) (p : Port) (e : SlotEntry) :
    (withTheCrc ((slotAudio s p e).map valueLayout).flatten).length = bytesPerSlot e.format + 2 := by
  rw [withTheCrc_length, flatten_length_of_forall fun v => slotAudio_value_length, List.length_map,
    List.length_finRange]
  cases e.format <;> rfl

/-- Header and digest with their CRC take 48 bytes, a block the bytes of its slot and a CRC, a response 8. -/
theorem copyLayout_length {c : DownlinkCopy} {s : State} {p : Port} {map : SlotMap}
    (h : c.blocks = (usedSlots map).map (slotAudio s p)) :
    (copyLayout c).length =
      48 + ((usedSlots map).map fun e => bytesPerSlot e.format + 2).sum + 8 * c.responses.length := by
  have blocks : (c.blocks.map fun b => withTheCrc (b.map valueLayout).flatten).flatten.length =
      ((usedSlots map).map fun e => bytesPerSlot e.format + 2).sum := by
    rw [h, List.map_map, List.length_flatten, List.map_map]
    exact congrArg List.sum (List.map_congr_left fun e _ => slotAudio_length s p e)
  have responses : (c.responses.map responseLayout).flatten.length = c.responses.length * 8 :=
    flatten_length_of_forall fun r _ => responseLayout_length r
  rw [copyLayout, List.length_append, List.length_append, blocks, responses, withTheCrc_length, List.length_append,
    headerLayout_length, digestLayout_length]
  omega

end Sys2Proof.Machine

namespace Sys2Proof.Proofs

open Sys2Proof.Machine Sys2Proof.Claims

/-- Settles O43: the blocks are those of the map that the cycle start makes live, on the hand-over it leaves as it is;
the copy's bytes are those of its layout, whose parts have known lengths. -/
theorem theAudioSegmentFollowsTheLiveMap : Obligations.TheAudioSegmentFollowsTheLiveMap := by
  intro s schedule quiet
  obtain ⟨running, quiet, noFactory⟩ := quiet
  have like := reportsLike_startBlocks s
  refine ⟨_, congrArg Host.Outcome.next (State.whenRunning_running _ running), fun p => ?_⟩
  have leaving : (Vector.fill s.startBlocks.leaving : Vector (List Response) 4).pick p =
      (s.port p).responses.take 4 := by
    rw [Vector.pick_fill, State.leaving, State.port, like.links]; rfl
  have blocks : s.startBlocks.leave.segment p (s.startBlocks.leave.mapsOf p).live =
      (usedSlots (comingMap s p)).map (slotAudio s p) := by
    obtain ⟨x, left⟩ := s.startBlocks.leave_eq_withLinks
    rw [State.segment_eq, left, State.withLinks_mapsOf, State.startBlocks_mapsOf, PortMaps.goLive_live,
      ← like.slotAudio]
    rfl
  rw [State.startCycle_quiet quiet noFactory]
  refine ⟨s.startBlocks.leave.downlinkCopy p s.nextCount ((s.port p).responses.take 4), ?_, blocks, ?_⟩
  · exact (congrArg PortLink.downlink (State.sendDownlinks_port _ _ _ p)).trans (by rw [leaving])
  · rw [DownlinkCopy.bytes_eq, copyLayout_length blocks]
    congr 2
    exact List.length_take

end Sys2Proof.Proofs
end

section
/-! SUPPORT. Waiting requests taken one at a time: what a decision leaves of the run, what a take leaves of its port's
link, and that a take is the request's command on the state with the waiting requests put aside (R149 to R151). -/

namespace Sys2Proof.Machine

open Sys2Proof.Safety Sys2Proof.Claims

/-! ### What no decision changes -/

/-- The phase of the run, and the CLIP stickies that await their map: no request changes them. -/
def State.footing (s : State) : Phase × Option (Vector (Vector Bool 32) 4) := (s.phase, s.level.clipBefore)

theorem State.footing_phase {s t : State} (h : t.footing = s.footing) : t.phase = s.phase := congrArg Prod.fst h

theorem State.footing_clipBefore {s t : State} (h : t.footing = s.footing) :
    t.level.clipBefore = s.level.clipBefore := congrArg Prod.snd h

theorem foldl_footing {α : Type} {f : State → α → State} (hf : ∀ s a, (f s a).footing = s.footing) (l : List α)
    (s : State) : (l.foldl f s).footing = s.footing := by
  induction l generalizing s with
  | nil => rfl
  | cons a l ih => exact (ih (f s a)).trans (hf s a)

theorem SameButHands.footing {s t : State} (h : SameButHands s t) : t.footing = s.footing :=
  congrArg (·.footing) h

theorem ClockOnly.footing {s t : State} (h : ClockOnly s t) : t.footing = s.footing := by rw [h]; rfl

section

variable (s : State) (p : Port)

@[simp] theorem State.setMaps_footing (m : PortMaps) : (s.setMaps p m).footing = s.footing := rfl

@[simp] theorem State.unlinkPair_footing (k : PairNo) : (s.unlinkPair k).footing = s.footing := rfl

@[simp] theorem State.setQueue_footing (u : InputNo) (queue : List Port) : (s.setQueue u queue).footing = s.footing :=
  rfl

@[simp] theorem State.withdraw_footing (u : InputNo) : (s.withdraw u p).footing = s.footing := rfl

@[simp] theorem State.writeDraft_footing (k : SlotNo) (e : Option SlotEntry) :
    (s.writeDraft p k e).footing = s.footing := rfl

@[simp] theorem State.release_footing (u : InputNo) : (s.release u p).footing = s.footing :=
  (s.handed_release u p).frame.footing

@[simp] theorem State.grant_footing (u : InputNo) : (s.grant u p).footing = s.footing :=
  (s.handed_grant u p).frame.footing

@[simp] theorem State.displace_footing (u : InputNo) (h : Port) : (s.displace u h p).footing = s.footing :=
  (State.grant_footing _ p u).trans (s.release_footing h u)

@[simp] theorem State.passOn_footing (u : InputNo) : (s.passOn u p).footing = s.footing := by
  unfold State.passOn
  dsimp only
  split
  · exact s.release_footing p u
  · exact (State.grant_footing _ _ u).trans (s.release_footing p u)

@[simp] theorem State.setGainTarget_footing (i : InputNo) (n : Nat) : (s.setGainTarget i n).footing = s.footing := by
  unfold State.setGainTarget; split <;> rfl

theorem State.reachInput_footing (i : InputNo) : (s.reachInput i).footing = s.footing := by
  unfold State.reachInput; split <;> rfl

@[simp] theorem State.changeGroup_footing (g : GroupNo) (x : PhantomGroup) :
    (s.changeGroup g x).footing = s.footing := by
  have reached : (if x.state.live then (groupInputs g).foldl State.reachInput (s.setGroup g x)
      else s.setGroup g x).footing = s.footing := by
    split
    · exact foldl_footing State.reachInput_footing _ _
    · rfl
  unfold State.changeGroup
  dsimp only
  split
  · exact reached
  · exact reached

@[simp] theorem State.linkPair_footing (k : PairNo) : (s.linkPair k p).footing = s.footing := by
  have copied (t : State) : (t.copyRecords k p).footing = t.footing := foldl_footing (fun _ _ => rfl) allPorts t
  exact (copied _).trans (State.setGainTarget_footing _ (oddOf k) _)

@[simp] theorem State.clockListWritten_footing : s.clockListWritten.footing = s.footing :=
  (clockOnly_clockListWritten s).footing

/-- The answers to CLAIM and YIELD are formed on the state as it then stands. -/
@[simp] theorem standingReply_fst (u : InputNo) (o : OutcomeCode) (n : Nat) : (standingReply p u s o n).1 = s := rfl

theorem decideClaim_footing (c : Byte) : (decideClaim p c s).1.footing = s.footing := by
  simp only [decideClaim]
  repeat' split
  all_goals simp

theorem decideYield_footing (c : Byte) : (decideYield p c s).1.footing = s.footing := by
  simp only [decideYield]
  repeat' split
  all_goals simp

theorem decideGain_footing (c : Byte) (a : Half) : (decideGain p c a s).1.footing = s.footing := by
  have gains (n : Nat) (l : List InputNo) := foldl_footing (fun t i => t.setGainTarget_footing i n) l s
  simp only [decideGain]
  repeat' split
  all_goals simp [gains]

theorem decidePad_footing (c : Byte) (a : Half) : (decidePad p c a s).1.footing = s.footing := by
  have pads (on : Bool) (l : List InputNo) := foldl_footing (f := fun t i => t.requestPad i on) (fun _ _ => rfl) l s
  simp only [decidePad]
  repeat' split
  all_goals simp [pads]

theorem decideMode_footing (c : Byte) (a : Half) : (decideMode p c a s).1.footing = s.footing := by
  have modes (m : Mode) (l : List InputNo) := foldl_footing (f := fun t i => t.requestMode i m) (fun _ _ => rfl) l s
  simp only [decideMode]
  repeat' split
  all_goals simp [modes]

theorem decidePhantom_footing (c : Byte) (a : Half) : (decidePhantom p c a s).1.footing = s.footing := by
  simp only [decidePhantom]
  repeat' split
  all_goals simp

theorem decideTrim_footing (c : Byte) (a : Half) : (decideTrim p c a s).1.footing = s.footing := by
  have trims (v : Int) (l : List InputNo) := foldl_footing (f := fun t i => t.writeTrim p v i) (fun _ _ => rfl) l s
  simp only [decideTrim]
  repeat' split
  all_goals simp [trims]

theorem decideMute_footing (c : Byte) (a : Half) : (decideMute p c a s).1.footing = s.footing := by
  have mutes (on : Bool) (l : List InputNo) := foldl_footing (f := fun t i => t.writeMute p on i) (fun _ _ => rfl) l s
  simp only [decideMute]
  repeat' split
  all_goals simp [mutes]

theorem decideLink_footing (c : Byte) (a : Half) : (decideLink p c a s).1.footing = s.footing := by
  simp only [decideLink]
  repeat' split
  all_goals simp

theorem decideSlot_footing (c : Byte) (a b : Half) : (decideSlot p c a b s).1.footing = s.footing := by
  simp only [decideSlot]
  repeat' split
  all_goals simp

theorem decideCommit_footing : (decideCommit p s).1.footing = s.footing := by
  simp only [decideCommit]
  repeat' split
  all_goals simp

theorem decideRound_footing (a : Half) : (decideRound p a s).1.footing = s.footing := by
  unfold decideRound; split <;> rfl

theorem decideWatch_footing (c : Byte) (a b : Half) : (decideWatch p c a b s).1.footing = s.footing := by
  unfold decideWatch; split <;> rfl

theorem decideWatchClear_footing (c : Byte) : (decideWatchClear p c s).1.footing = s.footing := by
  unfold decideWatchClear
  split
  · rfl
  · split <;> rfl

theorem decideSetting_footing (c : Byte) (a : Half) : (decideSetting c a s).1.footing = s.footing := by
  have stored (st : Store) : State.footing { s with store := st } = s.footing := rfl
  simp only [decideSetting]
  repeat' split
  all_goals simp [stored]

theorem decideFactory_footing : (decideFactory p s).1.footing = s.footing := by
  unfold decideFactory; split <;> rfl

/-- No decision of a request changes the phase of the run or the stickies that await their map. -/
theorem decideRequest_footing (r : Request) : (decideRequest p r s).1.footing = s.footing := by
  unfold decideRequest
  split
  · exact decideClaim_footing s p _
  · exact decideYield_footing s p _
  · exact decideGain_footing s p _ _
  · exact decidePad_footing s p _ _
  · exact decideMode_footing s p _ _
  · exact decidePhantom_footing s p _ _
  · exact decideTrim_footing s p _ _
  · exact decideMute_footing s p _ _
  · exact decideLink_footing s p _ _
  · exact decideSlot_footing s p _ _ _
  · exact decideCommit_footing s p
  · exact decideRound_footing s p _
  · exact decideWatch_footing s p _ _ _
  · exact decideWatchClear_footing s p _
  · exact decideSetting_footing s _ _
  · exact decideFactory_footing s p
  · rfl

end

/-! ### A request's command (log entries 13 and 22) -/

/-- The request with the operands that its kind does not read put to 0, as its command presents it. -/
def Request.plain (r : Request) : Request :=
  match r.kind.toNat with
  | 10 | 13 => r
  | 3 | 4 | 5 | 6 | 7 | 8 | 9 | 12 | 15 => { r with b := 0 }
  | _ => { r with a := 0, b := 0 }

@[simp] theorem Request.plain_kind (r : Request) : r.plain.kind = r.kind := by unfold Request.plain; split <;> rfl

@[simp] theorem Request.plain_target (r : Request) : r.plain.target = r.target := by
  unfold Request.plain; split <;> rfl

/-- The owning block does not read what the plain request leaves out. -/
theorem decideRequest_plain (p : Port) (r : Request) (s : State) : decideRequest p r.plain s = decideRequest p r s := by
  simp only [decideRequest, Request.plain_kind, Request.plain_target]
  split
  all_goals next h => simp [Request.plain, h]

/-- The command of a request presents the plain request to the port's queue. -/
theorem exec_commandOf (p : Port) (r : Request) (s : State) :
    exec (commandOf p r) s = .next (s.whenRunning (s.request p r.plain)) := by
  obtain ⟨kind, c, a, b⟩ := r
  have known (n : Nat) (hn : n < 256) (h : kind.toNat = n) : kind = BitVec.ofNat 8 n :=
    BitVec.eq_of_toNat_eq (by rw [h, BitVec.toNat_ofNat, Nat.mod_eq_of_lt hn])
  unfold commandOf
  dsimp only
  split
  case h_17 =>
    have plain : Request.plain ⟨kind, c, a, b⟩ = ⟨kind, c, 0, 0⟩ := by
      unfold Request.plain
      split <;> trivial
    rw [plain]
    rfl
  all_goals next h =>
    obtain rfl := known _ (by decide) h
    simp [Request.plain]
    rfl

end Sys2Proof.Machine
end

section
/-! SUPPORT. The requests taken at a cycle start (R150, R151): what they leave in each port's queues, and that they act
as their commands, one after another, on the state with the waiting requests put aside. -/

namespace Sys2Proof.Machine

open Sys2Proof.Safety Sys2Proof.Claims

/-! ### One take, and its command -/

/-- The requests of a port that find a free place in its response queue, oldest first (R150). -/
def PortLink.taking (l : PortLink) : List Request := l.requests.take (8 - l.responses.length)

/-- A link whose oldest request, `rest` behind it, is taken and answered with `x`. -/
def PortLink.answered (l : PortLink) (rest : List Request) (x : Response) : PortLink :=
  { l with requests := rest, responses := l.responses ++ [x] }

/-- The oldest request to be taken stands first in the queue, and those behind it are still to be taken once it is
answered. -/
theorem PortLink.taking_cons {l : PortLink} {r : Request} {later : List Request} (h : l.taking = r :: later) :
    ∃ rest, l.requests = r :: rest ∧ l.responses.length < 8 ∧ ∀ x, (l.answered rest x).taking = later := by
  unfold PortLink.taking at h
  cases hq : l.requests with
  | nil => simp [hq] at h
  | cons r' rest =>
    cases hn : 8 - l.responses.length with
    | zero => simp [hq, hn] at h
    | succ n =>
      rw [hq, hn, List.take_succ_cons, List.cons.injEq] at h
      obtain ⟨rfl, rfl⟩ := h
      refine ⟨rest, rfl, by omega, fun x => ?_⟩
      simp only [PortLink.taking, PortLink.answered, List.length_append, List.length_singleton]
      rw [show 8 - (l.responses.length + 1) = n by omega]

/-- A port with no request to take, or no place to answer it in, is left as it is. -/
theorem State.takeOne_nil {s : State} {p : Port} (h : (s.port p).taking = []) : s.takeOne p = s := by
  unfold State.takeOne
  split
  · rfl
  next r rest hq =>
  split
  · next place =>
    simp only [PortLink.taking, hq, List.take_eq_nil_iff, reduceCtorEq, or_false] at h
    simp only [Config.queuePlaces] at place
    omega
  · rfl

/-- A take decides the request, which leaves its queue, and appends the response. -/
theorem State.takeOne_cons {s : State} {p : Port} {r : Request} {rest : List Request}
    (hq : (s.port p).requests = r :: rest) (hr : (s.port p).responses.length < 8) :
    s.takeOne p = (decideRequest p r s).1.withLinks
      (s.links.put p ((s.port p).answered rest ((decideRequest p r s).2.toResponse r))) := by
  have attach (q : Port) : ((s.links.put p { s.port p with requests := rest }).pick q).attach = (s.port q).attach := by
    rw [Vector.pick_put]
    split
    · next h => rw [h]
    · rfl
  have decided := decideRequest_withLinks s _ attach p r
  unfold State.takeOne
  simp only [hq, Config.queuePlaces, hr, if_true]
  rw [State.serve_withLinks, State.port_setPort, if_pos rfl,
    show s.setPort p { s.port p with requests := rest } = s.withLinks _ from rfl, decided]
  simp only [State.withLinks_withLinks, State.withLinks_links, Vector.put_put]
  rfl

theorem State.takeOne_port {s : State} {p : Port} {r : Request} {rest : List Request}
    (hq : (s.port p).requests = r :: rest) (hr : (s.port p).responses.length < 8) (q : Port) :
    (s.takeOne p).port q =
      if q = p then (s.port p).answered rest ((decideRequest p r s).2.toResponse r) else s.port q := by
  rw [State.takeOne_cons hq hr, State.port, State.withLinks_links, Vector.pick_put]; rfl

/-- A link with its waiting requests put aside. -/
def PortLink.aside (l : PortLink) : PortLink := { l with requests := [] }

/-- The state with every waiting request put aside. -/
def State.aside (s : State) : State := s.withLinks (.fill fun p => (s.port p).aside)

theorem State.aside_port (s : State) (p : Port) : s.aside.port p = (s.port p).aside := Vector.pick_fill _ _

/-- A take is the request's command where no request waits (log entry 13). -/
theorem exec_commandOf_aside {s : State} {p : Port} {r : Request} {later : List Request}
    (running : s.phase = .running) (present : (s.port p).attach ≠ .absent) (h : (s.port p).taking = r :: later) :
    exec (commandOf p r) s.aside = .next (s.takeOne p).aside := by
  obtain ⟨rest, hq, hr, -⟩ := PortLink.taking_cons h
  have attach (q : Port) : (s.aside.links.pick q).attach = (s.port q).attach :=
    (congrArg PortLink.attach (s.aside_port q) :)
  have ready : ready s.aside p := by
    rw [Claims.ready, State.aside_port]
    exact ⟨running, present, rfl, hr⟩
  have decided : decideRequest p r.plain s.aside = State.decidedWith s.aside.links (decideRequest p r s) := by
    rw [decideRequest_plain]; exact decideRequest_withLinks s _ attach p r
  have response (y : Reply) : y.toResponse r.plain = y.toResponse r := by simp [Reply.toResponse]
  have links : answeredLinks s.aside p ((decideRequest p r s).2.toResponse r) =
      .fill fun q => ((s.takeOne p).port q).aside := by
    refine Vector.pick_ext fun q => ?_
    rw [answeredLinks, Vector.pick_put, Vector.pick_fill, State.takeOne_port hq hr, State.aside_port]
    split
    · rfl
    · exact s.aside_port q
  rw [exec_commandOf, State.whenRunning_request _ ready, decided, response, links, State.aside,
    State.takeOne_cons hq hr]
  rfl

/-! ### What takes leave of a port's link -/

/-- The link `m` is what takes of the oldest requests leave of the link `l`: each leaves its queue and appends a
response that echoes its kind and target (R150, R155). -/
inductive PortLink.Takes : PortLink → PortLink → Prop
  | none (l : PortLink) : Takes l l
  | one {l m : PortLink} {r : Request} {rest : List Request} (x : Response) (queue : l.requests = r :: rest)
      (place : l.responses.length < 8) (echo : (x.kind, x.target) = (r.kind, r.target))
      (more : Takes (l.answered rest x) m) : Takes l m

namespace PortLink.Takes

theorem trans {l m n : PortLink} (h : Takes l m) (h' : Takes m n) : Takes l n := by
  induction h with
  | none => exact h'
  | one x queue place echo _ ih => exact .one x queue place echo (ih h')

/-- Only the two queues change. -/
theorem frame {l m : PortLink} (h : Takes l m) :
    m = { l with requests := m.requests, responses := m.responses } := by
  induction h with
  | none => rfl
  | one _ _ _ _ _ ih => exact ih

theorem of_empty {l m : PortLink} (h : Takes l m) (empty : l.requests = []) : m.requests = [] := by
  cases h with
  | none => exact empty
  | one _ queue => rw [empty] at queue; cases queue

/-- Once no further request finds a place, as many are gone as the free places admitted, each answered in order. -/
theorem done {l m : PortLink} (h : Takes l m) (full : m.taking = []) :
    m.requests = l.requests.drop (min l.requests.length (8 - l.responses.length)) ∧
    ∃ new, m.responses = l.responses ++ new ∧
      new.map (fun r => (r.kind, r.target)) =
        (l.requests.take (min l.requests.length (8 - l.responses.length))).map fun r => (r.kind, r.target) := by
  induction h with
  | none l =>
    have none : min l.requests.length (8 - l.responses.length) = 0 := by
      rw [Nat.min_comm, ← List.length_take]; exact congrArg List.length full
    simp [none]
  | @one l m r rest x queue place echo _ ih =>
    obtain ⟨requests, new, responses, echoes⟩ := ih full
    have count : min l.requests.length (8 - l.responses.length) =
        min (l.answered rest x).requests.length (8 - (l.answered rest x).responses.length) + 1 := by
      simp only [PortLink.answered, queue, List.length_cons, List.length_append, List.length_nil]
      omega
    rw [count, queue, List.drop_succ_cons, List.take_succ_cons]
    refine ⟨requests, x :: new, by rw [responses, PortLink.answered, List.append_assoc]; rfl, ?_⟩
    rw [List.map_cons, List.map_cons, echo, echoes]
    rfl

end PortLink.Takes

/-- `t` is what takes of waiting requests leave of `s`. -/
structure Taken (s t : State) : Prop where
  footing : t.footing = s.footing
  takes : ∀ q, (s.port q).Takes (t.port q)

namespace Taken

variable {s t u : State}

theorem refl (s : State) : Taken s s := ⟨rfl, fun _ => .none _⟩

theorem trans (h : Taken s t) (h' : Taken t u) : Taken s u :=
  ⟨h'.footing.trans h.footing, fun q => (h.takes q).trans (h'.takes q)⟩

theorem foldl {α : Type} {f : State → α → State} (hf : ∀ s a, Taken s (f s a)) (l : List α) (s : State) :
    Taken s (l.foldl f s) := by
  induction l generalizing s with
  | nil => exact refl s
  | cons a l ih => exact (hf s a).trans (ih (f s a))

theorem attach (h : Taken s t) (q : Port) : (t.port q).attach = (s.port q).attach := by rw [(h.takes q).frame]

end Taken

theorem taken_takeOne (s : State) (p : Port) : Taken s (s.takeOne p) := by
  cases h : (s.port p).taking with
  | nil => rw [State.takeOne_nil h]; exact .refl s
  | cons r later =>
    obtain ⟨rest, hq, hr, -⟩ := PortLink.taking_cons h
    refine ⟨by rw [State.takeOne_cons hq hr]; exact decideRequest_footing s p r, fun q => ?_⟩
    rw [State.takeOne_port hq hr]
    split
    · next same => subst same; exact .one _ hq hr rfl (.none _)
    · exact .none _

theorem taken_takes (s : State) (p : Port) (n : Nat) : Taken s (s.takes p n) := by
  induction n generalizing s with
  | zero => exact .refl s
  | succ n ih => exact (taken_takeOne s p).trans (ih _)

theorem taken_drain (s : State) (p : Port) : Taken s (s.drain p) := taken_takes s p _

theorem taken_takeWaiting (s : State) (schedule : List Port) : Taken s (s.takeWaiting schedule) :=
  (Taken.foldl taken_takeOne schedule s).trans (.foldl taken_drain allPorts _)

/-! ### Which requests are still to be taken -/

/-- The requests still to be taken after one was. -/
theorem State.takeOne_taking {s : State} {p : Port} {r : Request} {later : List Request}
    (h : (s.port p).taking = r :: later) (q : Port) :
    ((s.takeOne p).port q).taking = if q = p then later else (s.port q).taking := by
  obtain ⟨rest, hq, hr, left⟩ := PortLink.taking_cons h
  rw [State.takeOne_port hq hr]
  split
  · exact left _
  · rfl

/-- Enough takes from one port leave it none to be taken, and the others theirs. -/
theorem State.takes_taking {s : State} {p : Port} {n : Nat} (h : (s.port p).taking.length ≤ n) (q : Port) :
    ((s.takes p n).port q).taking = if q = p then [] else (s.port q).taking := by
  induction n generalizing s with
  | zero =>
    have none : (s.port p).taking = [] := List.length_eq_zero_iff.mp (by omega)
    rw [State.takes]
    split
    · next same => rw [same, none]
    · rfl
  | succ n ih =>
    rw [State.takes]
    cases taking : (s.port p).taking with
    | nil => rw [State.takeOne_nil taking, ih (by simp [taking])]
    | cons r later =>
      have left := State.takeOne_taking taking
      rw [ih (by rw [left, if_pos rfl]; simpa [taking] using h), left]
      split <;> rfl

theorem PortLink.taking_length_le (l : PortLink) : l.taking.length ≤ l.requests.length := by
  rw [PortLink.taking, List.length_take]; omega

theorem State.drain_taking (s : State) (p q : Port) :
    ((s.drain p).port q).taking = if q = p then [] else (s.port q).taking :=
  State.takes_taking (PortLink.taking_length_le _) q

/-- Drained ports have none to be taken. -/
theorem State.foldl_drain_taking (l : List Port) (s : State) (q : Port) :
    ((l.foldl State.drain s).port q).taking = if q ∈ l then [] else (s.port q).taking := by
  induction l generalizing s with
  | nil => rfl
  | cons p l ih =>
    rw [List.foldl_cons, ih, State.drain_taking]
    by_cases first : q = p <;> simp [first]

/-- A cycle start takes every request that finds a place. -/
theorem State.takeWaiting_taking (s : State) (schedule : List Port) (q : Port) :
    ((s.takeWaiting schedule).port q).taking = [] := by
  rw [State.takeWaiting, State.foldl_drain_taking]
  exact if_pos (List.mem_finRange q)

/-! ### The takes as commands -/

theorem runs_cons {c : Instr} {s t : State} (h : exec c s = .next t) (l : List Instr) : runs (c :: l) s = runs l t := by
  show List.foldl _ (exec c s) l = _
  rw [h]

theorem runs_append {l : List Instr} {s t : State} (h : runs l s = .next t) (m : List Instr) :
    runs (l ++ m) s = runs m t := by
  rw [runs, List.foldl_append, ← runs, h]

/-- The part runs, and no request of an ABSENT port waits (R148). -/
structure State.Serving (s : State) : Prop where
  running : s.phase = .running
  present : ∀ p, (s.port p).attach = .absent → (s.port p).requests = []

namespace State.Serving

variable {s t : State}

theorem taken (h : s.Serving) (taken : Taken s t) : t.Serving := by
  refine ⟨(State.footing_phase taken.footing).trans h.running, fun p absent => ?_⟩
  rw [taken.attach] at absent
  exact (taken.takes p).of_empty (h.present p absent)

theorem exec_commandOf (h : s.Serving) {p : Port} {r : Request} {later : List Request}
    (taking : (s.port p).taking = r :: later) : exec (commandOf p r) s.aside = .next (s.takeOne p).aside :=
  exec_commandOf_aside h.running (fun absent => by simp [PortLink.taking, h.present p absent] at taking) taking

/-- The takes from one port are its requests' commands, oldest first. -/
theorem runs_takes {p : Port} {n : Nat} (h : s.Serving) (enough : (s.port p).taking.length ≤ n) :
    runs ((s.port p).taking.map (commandOf p)) s.aside = .next (s.takes p n).aside := by
  induction n generalizing s with
  | zero => rw [List.length_eq_zero_iff.mp (Nat.le_zero.mp enough)]; rfl
  | succ n ih =>
    rw [State.takes]
    cases taking : (s.port p).taking with
    | nil => simpa only [State.takeOne_nil taking, taking] using ih h (by simp [taking])
    | cons r later =>
      have left := State.takeOne_taking taking p
      rw [if_pos rfl] at left
      rw [List.map_cons, runs_cons (h.exec_commandOf taking), ← left]
      exact ih (h.taken (taken_takeOne s p)) (by rw [left]; simpa [taking] using enough)

/-- Ports drained one after another take their requests port by port. -/
theorem runs_drains {l : List Port} (h : s.Serving) (hl : l.Nodup) :
    runs (l.flatMap fun p => (s.port p).taking.map (commandOf p)) s.aside = .next (l.foldl State.drain s).aside := by
  induction l generalizing s with
  | nil => rfl
  | cons p l ih =>
    obtain ⟨hp, hl⟩ := List.nodup_cons.mp hl
    have first := h.runs_takes (PortLink.taking_length_le (s.port p))
    have rest : (l.flatMap fun q => (s.port q).taking.map (commandOf q)) =
        l.flatMap fun q => ((s.drain p).port q).taking.map (commandOf q) := by
      refine List.flatMap_congr fun q hq => ?_
      rw [State.drain_taking, if_neg (by rintro rfl; exact hp hq)]
    rw [List.flatMap_cons, runs_append first, rest]
    exact ih (h.taken (taken_drain s p)) hl

/-- The requests taken at a cycle start act as their commands, in the order of the schedule and then of the ports
(log entry 7). -/
theorem runs_inOrder (h : s.Serving) (schedule : List Port) :
    runs (inOrder schedule fun p => (s.port p).taking) s.aside = .next (s.takeWaiting schedule).aside := by
  induction schedule generalizing s with
  | nil => exact h.runs_drains (List.nodup_finRange 4)
  | cons p schedule ih =>
    have more : s.takeWaiting (p :: schedule) = (s.takeOne p).takeWaiting schedule := rfl
    rw [more, inOrder]
    cases taking : (s.port p).taking with
    | nil => simpa only [State.takeOne_nil taking] using ih h
    | cons r later =>
      have left : (fun q => if q = p then later else (s.port q).taking) =
          fun q => ((s.takeOne p).port q).taking := funext fun q => (State.takeOne_taking taking q).symm
      dsimp only
      rw [runs_cons (h.exec_commandOf taking), left]
      exact ih (h.taken (taken_takeOne s p))

end State.Serving

end Sys2Proof.Machine
end

section
/-! SUPPORT. The state that the requests taken at a cycle start find: every block's state brought into the cycle,
written out field by field (R1 to R7, R18, R52, R93, R97, R111). -/

namespace Sys2Proof.Machine

open Sys2Proof.Safety Sys2Proof.Claims

/-! ### The changes handed to the store (R18, R171) -/

/-- The pad or the mode in effect changes. -/
abbrev Preamp.changes (x y : Preamp) : Prop := x.padInEffect ≠ y.padInEffect ∨ x.modeInEffect ≠ y.modeInEffect

/-- The stored record with the changes of one input entered. -/
def StoredFrontEnd.noteInput (r : StoredFrontEnd) (i : InputNo) (x y : Preamp) : StoredFrontEnd :=
  { r with
    pads := if x.padInEffect = y.padInEffect then r.pads else r.pads.put i y.padInEffect
    modes := if x.modeInEffect = y.modeInEffect then r.modes else r.modes.put i y.modeInEffect }

theorem StoredFrontEnd.noteInput_unchanged {x y : Preamp} (h : ¬ x.changes y) (r : StoredFrontEnd) (i : InputNo) :
    r.noteInput i x y = r := by
  obtain ⟨pad, mode⟩ := not_or.mp h
  rw [StoredFrontEnd.noteInput, if_pos (not_not.mp pad), if_pos (not_not.mp mode)]

/-- Pad and mode of one input are one change. -/
theorem Store.noteInput_eq (st : Store) (i : InputNo) (x y : Preamp) :
    st.noteInput i x y = if x.changes y then st.noteChange (st.frontEnd.noteInput i x y) else st := by
  have frontEnd (e : StoredFrontEnd) : (st.noteChange e).frontEnd = e := rfl
  by_cases pad : x.padInEffect = y.padInEffect <;> by_cases mode : x.modeInEffect = y.modeInEffect <;>
    simp [Store.noteInput, StoredFrontEnd.noteInput, pad, mode, frontEnd, Store.noteChange_noteChange]

/-- A bank with the changes of one input entered, and then those of others, has the changes of them all. -/
theorem fill_changes_cons {α : Type} [DecidableEq α] (v : Vector α 32) (before after : InputNo → α) (i : InputNo)
    (l : List InputNo) :
    (.fill fun j => if j ∈ l ∧ before j ≠ after j then after j
      else (if before i = after i then v else v.put i (after i)).pick j) =
    (.fill fun j => if j ∈ i :: l ∧ before j ≠ after j then after j else v.pick j : Vector α 32) := by
  refine congrArg Vector.fill (funext fun j => ?_)
  by_cases same : j = i
  · subst same
    by_cases change : before j = after j <;> simp [change]
  · by_cases change : before i = after i <;> simp [change, same, Vector.pick_put_ne]

section

variable (before after : InputNo → Preamp)

/-- The changes of several inputs are entered side by side. -/
theorem StoredFrontEnd.foldl_noteInput (l : List InputNo) (r : StoredFrontEnd) :
    l.foldl (fun r i => r.noteInput i (before i) (after i)) r =
      { r with
        pads := .fill fun i => if i ∈ l ∧ (before i).padInEffect ≠ (after i).padInEffect then (after i).padInEffect
          else r.pads.pick i
        modes := .fill fun i => if i ∈ l ∧ (before i).modeInEffect ≠ (after i).modeInEffect
          then (after i).modeInEffect else r.modes.pick i } := by
  induction l generalizing r with
  | nil =>
    have same {α : Type} (v : Vector α 32) : (.fill fun i => v.pick i) = v := Vector.pick_ext fun i => by simp
    simp [same]
  | cons i l ih =>
    rw [List.foldl_cons, ih]
    simp only [StoredFrontEnd.noteInput, StoredFrontEnd.mk.injEq, true_and, and_true]
    exact ⟨fill_changes_cons _ (fun i => (before i).padInEffect) (fun i => (after i).padInEffect) i l,
      fill_changes_cons _ (fun i => (before i).modeInEffect) (fun i => (after i).modeInEffect) i l⟩

theorem Store.foldl_noteInput_frontEnd (l : List InputNo) (st : Store) :
    (l.foldl (fun st i => st.noteInput i (before i) (after i)) st).frontEnd =
      l.foldl (fun r i => r.noteInput i (before i) (after i)) st.frontEnd := by
  induction l generalizing st with
  | nil => rfl
  | cons i l ih =>
    rw [List.foldl_cons, List.foldl_cons, ih, Store.noteInput_eq]
    split
    · rfl
    · next same => rw [StoredFrontEnd.noteInput_unchanged same]

/-- The changes of several inputs in one event are one change of the store. -/
theorem Store.foldl_noteInput (l : List InputNo) (st : Store) :
    l.foldl (fun st i => st.noteInput i (before i) (after i)) st =
      if ∃ i ∈ l, (before i).changes (after i) then
        st.noteChange (l.foldl (fun st i => st.noteInput i (before i) (after i)) st).frontEnd
      else st := by
  induction l generalizing st with
  | nil => simp
  | cons i l ih =>
    simp only [List.foldl_cons, List.mem_cons, exists_eq_or_imp, st.noteInput_eq]
    by_cases first : (before i).changes (after i)
    · simp only [first, if_true, true_or]
      rw [ih]
      split
      · rw [Store.noteChange_noteChange]; rfl
      · rfl
    · simp only [first, if_false, false_or]
      exact ih st

end

/-! ### Every input (R1 to R7) -/

theorem Preamp.takePad_eq (x : Preamp) :
    x.takePad = { x with
      padInEffect := x.padRequested
      settle := if decide (x.padRequested ≠ x.padInEffect) then 4 else x.settle } := by
  cases x
  unfold Preamp.takePad
  split
  · next same => simp_all
  · next other => simp_all [Config.settleCycles]

theorem modeTicks_eq (m : Mode) : modeTicks m = Config.ms (if m = .mic then 600 else 300) := by cases m <;> rfl

theorem Preamp.takeMode_eq (x : Preamp) (g : PhantomState) :
    x.takeMode g = { x with
      modeInEffect := x.modeRequested
      settle := if decide (x.modeRequested ≠ x.modeInEffect) && !g.live then 4 else x.settle
      modeTimer := if decide (x.modeRequested ≠ x.modeInEffect) && g.live
        then some (Config.ms (if x.modeRequested = .mic then 600 else 300)) else x.modeTimer } := by
  cases x
  unfold Preamp.takeMode
  split
  · next same => simp_all
  · next other => cases live : g.live <;> simp_all [Config.settleCycles, modeTicks_eq]

theorem PhantomGroup.live_eq (g : PhantomGroup) : g.state.live = phantomRequested g := by
  cases h : g.state <;> simp [PhantomState.live, phantomRequested, h]

theorem ClockState.acquiring_eq (c : ClockState) :
    c.acquiring = match c with | .acquire _ => true | _ => false := by cases c <;> rfl

/-- The front end's work on an input is what the statements call its start. -/
theorem State.startedInput_eq (s : State) (i : InputNo) : s.startedInput i = started s i := by
  have either (a b : Bool) (n : Nat) : (if a then 4 else if b then 4 else n) = if b || a then 4 else n := by
    cases a <;> cases b <;> rfl
  unfold State.startedInput Preamp.startCycle
  rw [Preamp.takePad_eq, Preamp.takeMode_eq, PhantomGroup.live_eq, ClockState.acquiring_eq]
  dsimp only
  rw [either]
  unfold Preamp.fixGain
  rw [PhantomGroup.live_eq]
  rfl

/-! ### The blocks' state in the cycle -/

/-- The store after a cycle start's changes of pad and mode in effect. -/
theorem State.startFrontEnd_store (s : State) :
    s.startFrontEnd.store = if ∃ i, (s.input i).padRequested ≠ (s.input i).padInEffect ∨
        (s.input i).modeRequested ≠ (s.input i).modeInEffect
      then noted s.store { s.store.frontEnd with
        pads := .fill fun i => if (s.input i).padRequested = (s.input i).padInEffect
          then s.store.frontEnd.pads.pick i else (s.input i).padRequested
        modes := .fill fun i => if (s.input i).modeRequested = (s.input i).modeInEffect
          then s.store.frontEnd.modes.pick i else (s.input i).modeRequested }
      else s.store := by
  have changes (i : InputNo) : (s.input i).changes (started s i) ↔
      (s.input i).padRequested ≠ (s.input i).padInEffect ∨ (s.input i).modeRequested ≠ (s.input i).modeInEffect :=
    or_congr ne_comm ne_comm
  have requested {α : Type} [DecidableEq α] (x y z : α) : (if x ≠ y then y else z) = if y = x then z else y := by
    rw [ite_not]; exact if_congr eq_comm rfl rfl
  rw [State.startFrontEnd, show s.startedInput = started s from funext s.startedInput_eq]
  dsimp only
  rw [Store.foldl_noteInput, Store.foldl_noteInput_frontEnd, StoredFrontEnd.foldl_noteInput,
    Store.noteChange_eq_noted]
  simp only [mem_allInputs, true_and, changes, requested]

theorem CompRecord.startCycle_eq (r : CompRecord) (held : Bool) (e : Int) :
    r.startCycle held e = if held then asHolder { r with anchor := e } else asNonHolder r e := by
  cases held with
  | true => exact CompRecord.recompute_holder _ e
  | false => exact CompRecord.recompute_other r e

theorem PortMaps.goLive_eq (m : PortMaps) :
    m.goLive = if m.commitPending then
        { m with live := m.draft, generation := m.generation + 1, commitPending := false }
      else m := rfl

/-- Front end, store, records, rounding modes and maps in the cycle (R1, R18, R52, R93, R111). -/
theorem State.enterCycle_eq (s : State) :
    s.enterCycle = { broughtIn s with
      level := { s.level with inEffect := s.level.requested }
      links := s.links } := by
  have entered : s.enterCycle = { s with
      cycleCount := some s.nextCount
      frontEnd := { s.frontEnd with inputs := .fill s.startedInput }
      arbiter := { s.arbiter with
        records := .fill fun q => .fill fun i =>
          (s.record q i).startCycle (s.holds q i) ((Vector.fill s.startedInput).pick i).effective }
      level := { s.level with inEffect := s.level.requested }
      maps := .fill fun p => (s.mapsOf p).goLive
      store := s.startFrontEnd.store } := rfl
  rw [entered, State.nextCount_eq, State.startFrontEnd_store, show s.startedInput = started s from
    funext s.startedInput_eq]
  simp only [Vector.pick_fill, CompRecord.startCycle_eq, State.holds_eq, decide_eq_true_eq, PortMaps.goLive_eq]

/-- The CLIP stickies then follow the maps now live, and nothing awaits its map any longer (R97). -/
theorem State.startBlocks_eq_enterCycle (s : State) :
    s.startBlocks = { s.enterCycle with level := { s.enterCycle.level with
      clip := .fill fun p => .fill (clipStands s p), clipBefore := none } } := by
  have clip : s.startBlocks.level.clip = .fill fun p => .fill (clipStands s p) :=
    Vector.pick_ext fun p => Vector.pick_ext fun i => by
      rw [State.startBlocks_clip, Vector.pick_fill, Vector.pick_fill]
  rw [← clip, State.startBlocks_eq]
  cases h : s.enterCycle.level.clipBefore with
  | none => rw [State.settleClip_none h, ← h]
  | some b => rw [State.settleClip_some h]

/-- Every block's state in the cycle, the leaving responses gone and the waiting requests put aside. -/
theorem State.startBlocks_leave_aside (s : State) : s.startBlocks.leave.aside = broughtIn s := by
  have links : s.startBlocks.leave.aside.links =
      .fill fun p => { s.port p with requests := [], responses := (s.port p).responses.drop 4 } := by
    refine Vector.pick_ext fun p => ?_
    rw [Vector.pick_fill]
    refine (s.startBlocks.leave.aside_port p).trans ?_
    rw [State.leave_port, State.port, (reportsLike_startBlocks s).links]
    rfl
  have rest : s.startBlocks.leave.aside = s.startBlocks.withLinks s.startBlocks.leave.aside.links := rfl
  rw [rest, links, State.startBlocks_eq_enterCycle, State.enterCycle_eq]
  rfl

end Sys2Proof.Machine
end

section
/-! The statement on the requests taken at a cycle start: the downlinks report the state that the requests taken have
left, and the restart begins where the accepted FACTORY's response is among those that leave (R150 to R152, R170). -/

namespace Sys2Proof.Machine

open Sys2Proof.Safety Sys2Proof.Claims

/-! ### The downlinks on the state that the requests taken have left -/

/-- A downlink copy reads nothing of the waiting requests. -/
theorem State.downlinkCopy_eq {w : State} (settled : w.level.clipBefore = none) (count : Byte) (p : Port)
    (leaving : List Response) : w.downlinkCopy p count leaving = copyFrom w.aside count p leaving := by
  have setup : (w.store.position == .setup) = decide (w.store.position = .setup) := by
    cases w.store.position <;> rfl
  have header : w.header p count leaving.length = (copyFrom w.aside count p leaving).header := by
    simp only [State.header, State.holdingsMask, State.holds_eq, setup, State.aside_port]
    rfl
  have clip (i : InputNo) : (w.level.clip.pick p).pick i = clipStands w.aside p i := by
    simp only [clipStands, State.aside, State.withLinks_level, settled]
  have digest : w.digest p (digestInput count) = (copyFrom w.aside count p leaving).digest := by
    rw [State.digest, clip]; rfl
  rw [State.downlinkCopy, header, digest, State.segment_eq]
  rfl

theorem reported_iff (s : State) (i : InputNo) : reported s i ↔ i = digestInput (Claims.nextCount s) :=
  ⟨fun h => (digestInput_eq h).symm, fun h => congrArg Fin.val h⟩

/-- The stickies of the reported input are cleared, the others stand. -/
theorem clearSticky_eq (s : State) (b : Vector (Vector Bool 32) 4) :
    clearSticky b (digestInput (Claims.nextCount s)) =
      .fill fun p => .fill fun i => (b.pick p).pick i && decide (¬ reported s i) := by
  refine congrArg Vector.fill (funext fun p => Vector.pick_ext fun i => ?_)
  rw [Vector.pick_put, Vector.pick_fill]
  split
  · next h => simp [(reported_iff s i).mpr h]
  · next h => simp [mt (reported_iff s i).mp h]

/-- Downlinks are sent, and the reported stickies cleared, as the statement writes it. -/
theorem State.sendDownlinks_clearReported {s w : State} (settled : w.level.clipBefore = none)
    (requests : ∀ p, (w.port p).requests = (s.port p).requests.drop (takenCount (s.port p))) :
    (w.sendDownlinks (Claims.nextCount s) (.fill fun p => (s.port p).responses.take 4)).clearReported
      (digestInput (Claims.nextCount s)) = sentFrom s w.aside := by
  have sent : w.sendDownlinks (Claims.nextCount s) (.fill fun p => (s.port p).responses.take 4) =
      w.withLinks (sentFrom s w.aside).links := by
    refine congrArg (State.withLinks w) (Vector.pick_ext fun p => ?_)
    rw [Vector.pick_fill, Vector.pick_fill, Vector.pick_fill, State.downlinkCopy_eq settled, State.aside_port,
      ← requests]
    rfl
  rw [sent, State.clearReported, clearSticky_eq, clearSticky_eq, clearSticky_eq]
  rfl

/-! ### The restart (R170) -/

theorem factoryLeaves_sentFrom (s v : State) :
    (sentFrom s v).factoryLeaves (.fill fun p => (s.port p).responses.take 4) = true ↔ factoryLeft s v := by
  rw [State.factoryLeaves, show (sentFrom s v).store = v.store from rfl]
  simp only [Option.any_eq_true, Vector.pick_fill, List.any_eq_true, Bool.and_eq_true, beq_iff_eq, factoryLeft]

theorem State.beginRestart_eq (s : State) : s.beginRestart = restarted s := by
  have writing : s.store.writing = true ↔ ¬ (s.store.settingsWrite = none ∧ s.store.frontEndWrite = none) := by
    rw [Store.writing, Bool.or_eq_true, Option.isSome_iff_ne_none, Option.isSome_iff_ne_none, not_and_or]
  unfold State.beginRestart State.writeDefaults restarted
  by_cases idle : s.store.settingsWrite = none ∧ s.store.frontEndWrite = none
  · rw [if_pos idle]
    exact if_neg (mt writing.mp (not_not.mpr idle))
  · rw [if_neg idle]
    exact if_pos (writing.mpr idle)

theorem State.beginRestart_port (s : State) (p : Port) : s.beginRestart.port p = s.port p := by
  rw [State.beginRestart_eq, restarted]; split <;> rfl

theorem State.clearReported_port (s : State) (i : InputNo) (p : Port) : (s.clearReported i).port p = s.port p := rfl

/-! ### The state at which requests are taken -/

/-- The state on which a cycle start takes the waiting requests. -/
abbrev State.freed (s : State) : State := s.startBlocks.leave

theorem State.freed_port (s : State) (p : Port) :
    s.freed.port p = { s.port p with responses := (s.port p).responses.drop 4 } := by
  rw [State.leave_port, State.port, (reportsLike_startBlocks s).links]; rfl

theorem State.freed_taking (s : State) (p : Port) :
    (s.freed.port p).taking = (s.port p).requests.take (takenCount (s.port p)) := by
  rw [State.freed_port, PortLink.taking, List.length_drop, takenCount, List.take_eq_take_iff]
  dsimp only
  omega

theorem State.freed_clipBefore (s : State) : s.freed.level.clipBefore = none := by
  show s.startBlocks.level.clipBefore = none
  rw [State.startBlocks_eq_enterCycle]

theorem State.freed_phase (s : State) : s.freed.phase = s.phase := by
  show s.startBlocks.phase = s.phase
  rw [State.startBlocks_eq_enterCycle]; rfl

/-- A cycle start takes requests on the freed state, sends the downlinks and begins the restart where one is due. -/
theorem State.startCycle_eq (s : State) (schedule : List Port) :
    s.startCycle schedule =
      let w := s.freed.takeWaiting schedule
      let leaving : Vector (List Response) 4 := .fill fun p => (s.port p).responses.take 4
      let t := (w.sendDownlinks (Claims.nextCount s) leaving).clearReported (digestInput (Claims.nextCount s))
      if t.factoryLeaves leaving then t.beginRestart else t := by
  have leaving : s.startBlocks.leaving = fun p => (s.port p).responses.take 4 := by
    funext p; rw [State.leaving, State.port, (reportsLike_startBlocks s).links]; rfl
  rw [State.startCycle, leaving, State.nextCount_eq]

/-- The restart leaves the links as the downlinks left them. -/
theorem State.startCycle_port (s : State) (schedule : List Port) (p : Port) :
    (s.startCycle schedule).port p = ((s.freed.takeWaiting schedule).sendDownlinks (Claims.nextCount s)
      (.fill fun p => (s.port p).responses.take 4)).port p := by
  rw [State.startCycle_eq]
  dsimp only
  split
  · rw [State.beginRestart_port, State.clearReported_port]
  · rw [State.clearReported_port]

/-- The requests taken act as their commands on the state the blocks and the leaving responses have left. -/
theorem State.runs_takeWaiting {s : State} (running : s.phase = .running)
    (present : ∀ p, (s.port p).attach = .absent → (s.port p).requests = []) (schedule : List Port) :
    runs (inOrder schedule fun p => (s.port p).requests.take (takenCount (s.port p))) (broughtIn s) =
      .next (s.freed.takeWaiting schedule).aside := by
  have serving : s.freed.Serving := by
    refine ⟨s.freed_phase.trans running, fun p => ?_⟩
    rw [State.freed_port]
    exact present p
  rw [← s.startBlocks_leave_aside, show (fun p => (s.port p).requests.take (takenCount (s.port p))) = _ from
    funext fun p => (s.freed_taking p).symm]
  exact serving.runs_inOrder schedule

end Sys2Proof.Machine

namespace Sys2Proof.Proofs

open Sys2Proof.Machine Sys2Proof.Claims

/-- Settles O44: each port's queues are what its takes leave; the takes are the requests' commands on the state with the
waiting requests put aside, which the downlinks then report and from which the restart begins. -/
theorem responsesLeaveAndRequestsAreTaken : Obligations.ResponsesLeaveAndRequestsAreTaken := by
  intro s schedule running
  have taken := taken_takeWaiting s.freed schedule
  have queues (p : Port) := (taken.takes p).done (s.freed.takeWaiting_taking schedule p)
  simp only [State.freed_port, List.length_drop] at queues
  refine ⟨_, congrArg Host.Outcome.next (State.whenRunning_running _ running), fun p => ?_, fun present =>
    ⟨_, State.runs_takeWaiting running present schedule, ?_⟩⟩
  · obtain ⟨requests, responses⟩ := queues p
    rw [State.startCycle_port, State.sendDownlinks_port, Vector.pick_fill]
    dsimp only
    exact ⟨requests, responses, (s.freed.takeWaiting schedule).downlinkCopy p _ _, rfl, rfl, List.length_take⟩
  · have sent := State.sendDownlinks_clearReported
      ((State.footing_clipBefore taken.footing).trans s.freed_clipBefore) fun p => (queues p).1
    have factory := factoryLeaves_sentFrom s (s.freed.takeWaiting schedule).aside
    rw [State.startCycle_eq]
    dsimp only
    rw [sent]
    exact ⟨fun left => (if_pos (factory.mpr left)).trans (State.beginRestart_eq _),
      fun stays => if_neg (mt factory.mp stays)⟩

end Sys2Proof.Proofs
end

section
/-! The statements on SLOT (R105 to R107) and on COMMIT (R108, R109). -/

namespace Sys2Proof.Machine

open Sys2Proof.Claims

/-! ### The operands of SLOT (R105, R154) -/

theorem slotTarget_target (k : SlotNo) : slotTarget (target k) = some k := inputTarget_target k

/-- A half read as a number and read as a two's-complement integer lie in 0 to 31 together. -/
theorem Half.toNat_lt_32_iff (a : Half) : a.toNat < 32 ↔ 0 ≤ a.toInt ∧ a.toInt ≤ 31 := by
  have bound := a.isLt
  rw [BitVec.toInt_eq_toNat_cond]
  split <;> omega

theorem slotInput_none {a : Half} (h : a.toInt < 0 ∨ 31 < a.toInt) : slotInput a = none := by
  have outside : ¬ a.toNat < 32 := by rw [Half.toNat_lt_32_iff]; omega
  rw [slotInput, dif_neg outside]

theorem slotInput_some {a : Half} (low : 0 ≤ a.toInt) (high : a.toInt ≤ 31) : ∃ i, slotInput a = some i :=
  ⟨_, dif_pos ((Half.toNat_lt_32_iff a).mpr ⟨low, high⟩)⟩

theorem formatOperand_none {b : Half} (h : b.toInt ∉ [0, 1, 2]) : formatOperand b = none := by
  simp only [List.mem_cons, List.not_mem_nil, or_false, not_or] at h
  obtain ⟨zero, one, two⟩ := h
  simp only [formatOperand, zero, one, two, if_false]

/-- Operands that ask for an entry ask for EMPTY, or name an input and a format. -/
theorem entryOf_some {a b : Half} {e : Option SlotEntry} (h : entryOf a b = some e) :
    (a.toInt = -1 ∧ e = none) ∨
    ∃ i f, a.toInt ≠ -1 ∧ slotInput a = some i ∧ formatOperand b = some f ∧ e = some { input := i, format := f } := by
  unfold entryOf at h
  split at h
  · next empty => exact .inl ⟨empty, (Option.some.inj h).symm⟩
  · next full =>
    split at h
    · next inside =>
      have entry : (formatOperand b).map (fun f => some { input := ⟨a.toNat, inside⟩, format := f }) = some e := by
        rw [← h, formatOperand]
        split_ifs <;> rfl
      obtain ⟨f, format, rfl⟩ := Option.map_eq_some_iff.mp entry
      exact .inr ⟨_, f, full, dif_pos inside, format, rfl⟩
    · cases h

theorem entryValue_eq_entryCode (e : Option SlotEntry) : entryValue e = entryCode e := by
  match e with
  | none => rfl
  | some ⟨i, .fix16⟩ => rfl
  | some ⟨i, .fix24⟩ => rfl
  | some ⟨i, .flt32⟩ => rfl

/-! ### The decision of SLOT, case by case (R105 to R107) -/

section

variable {s : State} {p : Port} {k : SlotNo} {a b : Half}

theorem decideSlot_pending (pending : (s.mapsOf p).commitPending = true) :
    decideSlot p (target k) a b s =
      (s, { outcome := .pending, value := entryCode ((s.mapsOf p).draft.pick k) }) := by
  simp only [decideSlot, slotTarget_target, pending, if_true, entryValue_eq_entryCode]

theorem decideSlot_badTarget (free : (s.mapsOf p).commitPending = false) (full : a.toInt ≠ -1)
    (outside : a.toInt < 0 ∨ 31 < a.toInt) : decideSlot p (target k) a b s = (s, .badTarget) := by
  simp only [decideSlot, slotTarget_target, free, Bool.false_eq_true, if_false, full, slotInput_none outside]

theorem decideSlot_badValue (free : (s.mapsOf p).commitPending = false) (low : 0 ≤ a.toInt) (high : a.toInt ≤ 31)
    (unknown : b.toInt ∉ [0, 1, 2]) :
    decideSlot p (target k) a b s =
      (s, { outcome := .badValue, value := entryCode ((s.mapsOf p).draft.pick k) }) := by
  obtain ⟨i, input⟩ := slotInput_some low high
  have full : a.toInt ≠ -1 := by omega
  simp only [decideSlot, slotTarget_target, free, Bool.false_eq_true, if_false, full, input,
    formatOperand_none unknown, entryValue_eq_entryCode]

theorem decideSlot_done {e : Option SlotEntry} (free : (s.mapsOf p).commitPending = false)
    (entry : entryOf a b = some e) :
    decideSlot p (target k) a b s = (s.writeDraft p k e, { outcome := .done, value := entryCode e }) := by
  obtain ⟨empty, rfl⟩ | ⟨i, f, full, input, format, rfl⟩ := entryOf_some entry
  · simp only [decideSlot, slotTarget_target, free, Bool.false_eq_true, if_false, empty, if_true]
  · simp only [decideSlot, slotTarget_target, free, Bool.false_eq_true, if_false, full, input, format,
      entryValue_eq_entryCode]

end

theorem exec_slot_ready {s : State} {p : Port} (c : Byte) (a b : Half) (h : ready s p) :
    exec (.slot p c a b) s = .next ((decideSlot p c a b s).1.withLinks
      (answeredLinks s p ((decideSlot p c a b s).2.toResponse { kind := 10, target := c, a := a, b := b }))) :=
  congrArg Host.Outcome.next (State.whenRunning_request _ h)

/-- A SLOT whose decision is an answer alone leaves everything but the port's responses. -/
theorem onlyAnswers_slot {s : State} {p : Port} {c : Byte} {a b : Half} {y : Reply} (h : ready s p)
    (decided : decideSlot p c a b s = (s, y)) :
    onlyAnswers (.slot p c a b) s p (y.toResponse { kind := 10, target := c, a := a, b := b }) := by
  rw [onlyAnswers, exec_slot_ready c a b h, decided]; rfl

/-! ### The payload and the decision of COMMIT (R104, R108, R109) -/

/-- The payload is the sum over the slots in their order, however a statement writes the bytes of one. -/
theorem sum_eq_payload {m : SlotMap} {bytes : SlotNo → Nat} (h : ∀ k, bytes k = entryBytes (m.pick k)) :
    ((List.finRange 32).map bytes).sum = payload m := by
  rw [payload, toList_eq_map_pick, List.map_map, funext h]
  rfl

/-- The coming generation counts modulo 256 (R109). -/
theorem PortMaps.comingGeneration_toNat (m : PortMaps) :
    (m.generation + 1).toNat = (m.generation.toNat + 1) % 256 := BitVec.toNat_add m.generation 1

section

variable {s : State} {p : Port}

theorem decideCommit_pending (pending : (s.mapsOf p).commitPending = true) :
    decideCommit p s =
      (s, { outcome := .pending, value := (((s.mapsOf p).generation.toNat + 1) % 256 : Nat) }) := by
  simp only [decideCommit, pending, if_true, PortMaps.comingGeneration_toNat]

theorem decideCommit_bandwidth (free : (s.mapsOf p).commitPending = false)
    (above : 7168 < payload (s.mapsOf p).draft) :
    decideCommit p s = (s, { outcome := .bandwidth, value := (payload (s.mapsOf p).draft : Nat) }) := by
  simp only [decideCommit, free, Bool.false_eq_true, if_false, Config.payloadLimit, above, if_true]

theorem decideCommit_done (free : (s.mapsOf p).commitPending = false)
    (fits : payload (s.mapsOf p).draft ≤ 7168) :
    decideCommit p s = (s.setMaps p { s.mapsOf p with commitPending := true },
      { outcome := .done, value := (((s.mapsOf p).generation.toNat + 1) % 256 : Nat) }) := by
  simp only [decideCommit, free, Bool.false_eq_true, if_false, Config.payloadLimit, fits.not_gt,
    PortMaps.comingGeneration_toNat]

end

theorem exec_commit_ready {s : State} {p : Port} (c : Byte) (h : ready s p) :
    exec (.commit p c) s = .next ((decideCommit p s).1.withLinks
      (answeredLinks s p ((decideCommit p s).2.toResponse { kind := 11, target := c, a := 0, b := 0 }))) :=
  congrArg Host.Outcome.next (State.whenRunning_request _ h)

/-- A COMMIT whose decision is an answer alone leaves everything but the port's responses. -/
theorem onlyAnswers_commit {s : State} {p : Port} {c : Byte} {y : Reply} (h : ready s p)
    (decided : decideCommit p s = (s, y)) :
    onlyAnswers (.commit p c) s p (y.toResponse { kind := 11, target := c, a := 0, b := 0 }) := by
  rw [onlyAnswers, exec_commit_ready c h, decided]; rfl

end Sys2Proof.Machine

namespace Sys2Proof.Proofs

open Sys2Proof.Machine Sys2Proof.Claims

/-- Settles O19: the decision's three refusals in their order, each an answer alone, and the write of the draft slot. -/
theorem slotIsCheckedAndWritesTheDraft : Obligations.SlotIsCheckedAndWritesTheDraft := by
  intro s p k a b hr
  refine ⟨fun pending => onlyAnswers_slot hr (decideSlot_pending pending),
    fun free full outside => onlyAnswers_slot hr (decideSlot_badTarget free full outside),
    fun free low high unknown => onlyAnswers_slot hr (decideSlot_badValue free low high unknown),
    fun free e entry => ?_⟩
  rw [exec_slot_ready _ a b hr, decideSlot_done free entry]
  rfl

/-- Settles O20: the bytes the statement sums are the draft's payload, by which a COMMIT that finds none pending is
refused or accepted. -/
theorem commitIsDecidedByThePayload : Obligations.CommitIsDecidedByThePayload := by
  intro s p t hr m bytes next answer
  have sum : bytes = payload m.draft := sum_eq_payload fun k => by
    match m.draft.pick k with
    | none => rfl
    | some ⟨_, .fix16⟩ => rfl
    | some ⟨_, .fix24⟩ => rfl
    | some ⟨_, .flt32⟩ => rfl
  rw [sum]
  refine ⟨fun pending => onlyAnswers_commit hr (decideCommit_pending pending),
    fun free above => onlyAnswers_commit hr (decideCommit_bandwidth free above), fun free fits => ?_⟩
  rw [exec_commit_ready t hr, decideCommit_done free fits]
  rfl

end Sys2Proof.Proofs
end

section
/-! SUPPORT. The clock tracker's choices and entries as the statements write them: the first candidate of a list, and
the clock that each entry into a clock state leaves (R124, R125, R127, R128, R130, R133 to R135). -/

namespace Sys2Proof.Machine

open Sys2Proof.Safety Sys2Proof.Claims

/-! ### Candidates (R125) -/

theorem State.candidate_eq (s : State) (p : Port) :
    s.candidate p = decide ((s.port p).attach = .attached ∧ p ∉ s.clock.refused) := by
  rw [Bool.eq_iff_iff]; simp [State.candidate, State.attached]

/-- The first port of a list that is a candidate. -/
theorem State.find_candidate (s : State) (l : List Port) : l.find? s.candidate = firstOf s s.clock.refused l := by
  rw [firstOf, List.head?_filter]
  exact congrArg (l.find? ·) (funext s.candidate_eq)

theorem State.firstCandidate_eq (s : State) :
    s.firstCandidate = firstOf s s.clock.refused s.store.settings.clockList := s.find_candidate _

/-- The holdover timer prefers a candidate other than the reference (R135). -/
theorem State.candidateAfter_eq (s : State) (r : Port) :
    s.candidateAfter r = (firstOf s s.clock.refused (s.store.settings.clockList.filter (· ≠ r))).or
      (firstOf s s.clock.refused s.store.settings.clockList) := by
  rw [State.candidateAfter, State.firstCandidate_eq, ← s.find_candidate (List.filter _ _), List.find?_filter]
  simp only [bne, decide_not, beq_eq_decide, Bool.decide_and, Bool.decide_eq_true]

/-! ### Entries into the states (R124, R127, R128, R134) -/

theorem nominalCycle_eq (r : Rate) : nominalCycle r = if r = .khz48 then 32768 else 16384 := by cases r <;> rfl

theorem State.enterFree_eq (s : State) : s.enterFree = { s with clock := Claims.freed s.clock } := by
  rw [State.enterFree, nominalCycle_eq]

theorem State.enterHoldover_eq (s : State) (r : Port) : s.enterHoldover r = { s with clock := heldOver s.clock r } :=
  rfl

theorem State.acquireOrFree_eq (s : State) (o : Option Port) :
    s.acquireOrFree o = { s with clock := acquiringOr s.clock o } := by
  cases o with
  | none => exact s.enterFree_eq
  | some r => rfl

/-! ### Leaving FREE and losing the reference (R127, R131, R133, R134) -/

/-- The clock once FREE is left for the first candidate. -/
def Clock.left (c : Clock) (first : Option Port) : Clock :=
  match c.state, first with
  | .free, some r => acquiring c r
  | _, _ => c

/-- The clock once the reference is lost, the first candidate left being `first`. -/
def Clock.lost (c : Clock) (first : Option Port) : Clock :=
  match c.state with
  | .free => c
  | .acquire _ => acquiringOr c first
  | .locked r => heldOver c r
  | .holdover _ => { c with relockRun := [], predecessor := none }

theorem State.leaveFree_eq (s : State) :
    s.leaveFree = { s with clock := s.clock.left (firstOf s s.clock.refused s.store.settings.clockList) } := by
  rw [State.leaveFree, State.firstCandidate_eq]
  cases state : s.clock.state with
  | free =>
    cases first : firstOf s s.clock.refused s.store.settings.clockList <;> simp only [Clock.left, state]
    rfl
  | acquire r | locked r | holdover r => simp only [Clock.left, state]

theorem State.loseReference_eq (s : State) :
    s.loseReference = { s with clock := s.clock.lost (firstOf s s.clock.refused s.store.settings.clockList) } := by
  rw [State.loseReference, State.firstCandidate_eq]
  cases state : s.clock.state with
  | free | holdover r => simp only [Clock.lost, state]
  | acquire r => simp only [Clock.lost, state, State.acquireOrFree_eq]
  | locked r => simp only [Clock.lost, state, State.enterHoldover_eq]

end Sys2Proof.Machine

namespace Sys2Proof.Proofs

open Sys2Proof.Machine Sys2Proof.Claims

/-- Settles O51: each timer chooses among the candidates of the list as it stands, the acquire timer once the reference
is refused. -/
theorem acquireAndHoldoverExpire : Obligations.AcquireAndHoldoverExpire := by
  intro s r running list
  refine ⟨fun acquire => ?_, fun holdover => ?_⟩
  · have expired : s.acquireExpired = { s with
        clock := acquiringOr { s.clock with
          refused := if r ∈ s.clock.refused then s.clock.refused else s.clock.refused ++ [r] }
          (firstOf s (if r ∈ s.clock.refused then s.clock.refused else s.clock.refused ++ [r]) list) } := by
      unfold State.acquireExpired
      rw [acquire]
      dsimp only
      rw [State.acquireOrFree_eq, State.firstCandidate_eq]
      rfl
    exact congrArg Host.Outcome.next ((State.whenRunning_running _ running).trans expired)
  · refine congrArg Host.Outcome.next ((State.whenRunning_running _ running).trans ?_)
    unfold State.holdoverExpired
    rw [holdover]
    dsimp only
    rw [State.acquireOrFree_eq, State.candidateAfter_eq]
    cases firstOf s s.clock.refused (list.filter (· ≠ r)) <;> rfl

end Sys2Proof.Proofs
end

section
/-! SUPPORT and the statement on SETTING of CLOCK_LIST (R136, R168, R169): the operand and the value of a list, the
decision, and the clock tracker's part. -/

namespace Sys2Proof.Machine

open Sys2Proof.Safety Sys2Proof.Claims

/-! ### Lists of ports in nibbles (10.2) -/

theorem nibbles_eq (a : Half) : nibbles a = nibblesOf a := by
  have high : a.toNat / 4096 % 16 = a.toNat / 4096 := by omega
  simp only [nibbles, nibblesOf, BitVec.extractLsb'_toNat, Nat.shiftRight_eq_div_pow, Nat.reducePow, high, Nat.div_one]

/-- Distinct ports are at most four. -/
theorem length_le_four {l : List Port} (h : l.Nodup) : l.length ≤ 4 := by simpa using h.length_le_card

theorem listNibbles_length {l : List Port} (h : l.Nodup) : (listNibbles l).length = 4 := by
  have := length_le_four h
  simp; omega

/-- The nibbles before the first 0xF are the list's ports, and every nibble from there on is 0xF. -/
theorem listNibbles_span (l : List Port) :
    (listNibbles l).takeWhile (· ≠ 15) = l.map Fin.val ∧
    (listNibbles l).dropWhile (· ≠ 15) = List.replicate (4 - l.length) 15 := by
  have ports : ∀ n ∈ l.map Fin.val, decide (n ≠ 15) = true := by
    intro n hn
    obtain ⟨p, -, rfl⟩ := List.mem_map.mp hn
    simp; omega
  have rest : (List.replicate (4 - l.length) 15).takeWhile (fun n => decide (n ≠ 15)) = [] ∧
      (List.replicate (4 - l.length) 15).dropWhile (fun n => decide (n ≠ 15)) = List.replicate (4 - l.length) 15 := by
    cases 4 - l.length <;> simp [List.replicate_succ]
  exact ⟨by rw [listNibbles, List.takeWhile_append_of_pos ports, rest.1, List.append_nil],
    by rw [listNibbles, List.dropWhile_append_of_pos ports, rest.2]⟩

/-- The operand of a list of distinct ports. -/
theorem clockListOperand_of_nibbles {a : Half} {l : List Port} (distinct : l.Nodup) (h : nibblesOf a = listNibbles l) :
    clockListOperand a = some l := by
  obtain ⟨before, after⟩ := listNibbles_span l
  have ports : (l.map Fin.val).map (Fin.ofNat 4) = l := by simp [Function.comp_def]
  have low : (l.map Fin.val).all (· < 4) = true := by simp
  have nodup : (l.map Fin.val).Nodup := distinct.map Fin.val_injective
  have rest : (List.replicate (4 - l.length) 15).all (· = 15) = true := by simp
  simp only [clockListOperand, nibbles_eq, h, before, after, low, rest, nodup, decide_true, Bool.and_self, if_true,
    ports]

/-- An operand in the item's set is the one of a list of distinct ports. -/
theorem nibbles_of_clockListOperand {a : Half} {l : List Port} (h : clockListOperand a = some l) :
    l.Nodup ∧ nibblesOf a = listNibbles l := by
  simp only [clockListOperand, nibbles_eq, Option.ite_none_right_eq_some, Bool.and_eq_true, List.all_eq_true,
    decide_eq_true_eq, Option.some.injEq] at h
  obtain ⟨⟨⟨low, high⟩, distinct⟩, rfl⟩ := h
  have ports : (((nibblesOf a).takeWhile (· ≠ 15)).map (Fin.ofNat 4)).map Fin.val =
      (nibblesOf a).takeWhile (· ≠ 15) := by
    rw [List.map_map]
    exact (List.map_congr_left fun n hn => Nat.mod_eq_of_lt (low n hn)).trans (List.map_id _)
  have split := List.takeWhile_append_dropWhile (p := (· ≠ 15)) (l := nibblesOf a)
  have count := congrArg List.length split
  rw [List.length_append] at count
  refine ⟨List.Nodup.of_map Fin.val (by rwa [ports]), ?_⟩
  rw [listNibbles, ports, List.length_map, ← List.eq_replicate_iff.mpr ⟨?_, high⟩]
  · exact split.symm
  · simp only [nibblesOf, List.length_cons, List.length_nil] at count ⊢
    omega

theorem clockListOperand_none {a : Half} (h : ¬ ∃ l : List Port, l.Nodup ∧ nibblesOf a = listNibbles l) :
    clockListOperand a = none := by
  cases e : clockListOperand a with
  | none => rfl
  | some l => exact (h ⟨l, nibbles_of_clockListOperand e⟩).elim

/-- The number that four nibbles spell. -/
abbrev nibbleNumber (l : List Nat) : Nat := l.foldl (fun acc x => acc * 16 + x) 0

theorem nibbleNumber_nibblesOf (a : Half) : nibbleNumber (nibblesOf a) = a.toNat := by
  simp only [nibbleNumber, nibblesOf, List.foldl_cons, List.foldl_nil]
  omega

theorem nibbleNumber_lt {l : List Port} (h : l.Nodup) : nibbleNumber (listNibbles l) < 65536 := by
  have small : ∀ n ∈ listNibbles l, n < 16 := by
    intro n hn
    rcases List.mem_append.mp hn with hn | hn
    · obtain ⟨p, -, rfl⟩ := List.mem_map.mp hn
      omega
    · rw [List.eq_of_mem_replicate hn]; decide
  have four := listNibbles_length h
  match listNibbles l, four, small with
  | [x, y, z, w], _, small =>
    simp only [List.mem_cons, List.not_mem_nil, or_false, forall_eq_or_imp, forall_eq] at small
    simp only [nibbleNumber, List.foldl_cons, List.foldl_nil]
    omega

theorem clockListValue_eq {l : List Port} (h : l.Nodup) :
    clockListValue l = (BitVec.ofNat 16 (nibbleNumber (listNibbles l))).toInt := by
  have four := length_le_four h
  have padded : (l.map Fin.val ++ [15, 15, 15, 15]).take 4 = listNibbles l := by
    rw [List.take_append, List.length_map, List.take_of_length_le (by simpa using four),
      show [15, 15, 15, 15] = List.replicate 4 15 from rfl, List.take_replicate, Nat.min_eq_left (by omega)]
  rw [clockListValue, padded]

/-- The value of a list of distinct ports is the one the statement writes. -/
theorem clockListValue_eq_listCode {l : List Port} (h : l.Nodup) : clockListValue l = listCode l := by
  have bound := nibbleNumber_lt h
  rw [clockListValue_eq h]
  simp only [BitVec.toInt_eq_toNat_cond, BitVec.toNat_ofNat, listCode, nibbleNumber] at bound ⊢
  split <;> split <;> omega

/-- The value of an accepted list is the operand (R169). -/
theorem clockListValue_of_nibbles {a : Half} {l : List Port} (distinct : l.Nodup) (h : nibblesOf a = listNibbles l) :
    clockListValue l = a.toInt := by
  rw [clockListValue_eq distinct, ← h, nibbleNumber_nibblesOf, BitVec.ofNat_toNat, BitVec.setWidth_eq]

/-! ### The decision (R168, R169) -/

@[simp] theorem Store.putSettings_settings (st : Store) (x : Settings) : (st.putSettings x).settings = x := by
  unfold Store.putSettings
  split
  · next h => exact h.symm
  · split <;> rfl

theorem Store.putSettings_eq_settled (st : Store) (x : Settings) : st.putSettings x = settled st x := by
  unfold Store.putSettings settled
  split
  · rfl
  · cases st.settingsWrite <;> rfl

theorem exec_setting_ready {s : State} {p : Port} (c : Byte) (a : Half) (h : ready s p) :
    exec (.setting p c a) s = .next ((decideSetting c a s).1.withLinks
      (answeredLinks s p ((decideSetting c a s).2.toResponse { kind := 15, target := c, a := a, b := 0 }))) :=
  congrArg Host.Outcome.next (State.whenRunning_request _ h)

/-- A SETTING whose decision is an answer alone leaves everything but the port's responses. -/
theorem onlyAnswers_setting {s : State} {p : Port} {c : Byte} {a : Half} {y : Reply} (h : ready s p)
    (decided : decideSetting c a s = (s, y)) :
    onlyAnswers (.setting p c a) s p (y.toResponse { kind := 15, target := c, a := a, b := 0 }) := by
  rw [onlyAnswers, exec_setting_ready c a h, decided]; rfl

section

variable {s : State} {a : Half}

theorem decideSetting_clockList_setupOnly (run : s.store.position = .run) :
    decideSetting 1 a s = (s, { outcome := .setupOnly, value := clockListValue s.store.settings.clockList }) :=
  if_pos run

theorem decideSetting_clockList_badValue (setup : s.store.position = .setup) (bad : clockListOperand a = none) :
    decideSetting 1 a s = (s, { outcome := .badValue, value := clockListValue s.store.settings.clockList }) := by
  have replaced : s.store.settings.replaced a .clockList = none := by simp [Settings.replaced, bad]
  rw [decideSetting, show settingItem 1 = some .clockList from rfl]
  simp [setup, replaced, Settings.value]

theorem decideSetting_clockList_done {l : List Port} (setup : s.store.position = .setup)
    (good : clockListOperand a = some l) :
    decideSetting 1 a s =
      (State.clockListWritten { s with store := s.store.putSettings { s.store.settings with clockList := l } },
        { outcome := .done, value := clockListValue l }) := by
  have replaced : s.store.settings.replaced a .clockList = some { s.store.settings with clockList := l } := by
    simp [Settings.replaced, good]
  rw [decideSetting, show settingItem 1 = some .clockList from rfl]
  simp [setup, replaced, Settings.value]

end

/-! ### The clock tracker's part (R136) -/

/-- The clock after an accepted list `l` whose first candidate is `first`: FREE is left for it, and a reference that the
list leaves out is lost. -/
def Clock.relisted (c : Clock) (l : List Port) (first : Option Port) : Clock :=
  match c.state.reference with
  | none => { c with refused := [] }.left first
  | some r => if r ∈ l then { c with refused := [] } else { c with refused := [] }.lost first

theorem State.clockListWritten_eq (s : State) :
    s.clockListWritten = { s with
      clock := s.clock.relisted s.store.settings.clockList (firstOf s [] s.store.settings.clockList) } := by
  have listed (c : Clock) (r : Port) : State.listed { s with clock := c } r =
      decide (r ∈ s.store.settings.clockList) := List.contains_eq_mem ..
  simp only [State.clockListWritten, Clock.relisted, State.leaveFree_eq, State.loseReference_eq, listed,
    decide_eq_true_eq]
  cases s.clock.state.reference with
  | none => rfl
  | some r => dsimp only; split <;> rfl

/-- The table of R136, row by row. -/
theorem Clock.relisted_eq (c : Clock) (l : List Port) (first : Option Port) :
    c.relisted l first =
      let c' := { c with refused := [] }
      match c.state with
      | .free => match first with
        | none => c'
        | some r => acquiring c' r
      | .acquire r => if r ∈ l then c' else acquiringOr c' first
      | .locked r => if r ∈ l then c' else heldOver c' r
      | .holdover r => if r ∈ l then c' else { c' with relockRun := [], predecessor := none } := by
  cases state : c.state with
  | free => cases first <;> simp only [Clock.relisted, ClockState.reference, Clock.left, state]
  | acquire r | locked r | holdover r => simp only [Clock.relisted, ClockState.reference, Clock.lost, state]

end Sys2Proof.Machine

namespace Sys2Proof.Proofs

open Sys2Proof.Machine Sys2Proof.Claims

/-- Settles O25: the operand is read back as the list whose nibbles it carries, and the clock tracker acts on the list
as the store then holds it. -/
theorem clockListWriteActsOnTheClock : Obligations.ClockListWriteActsOnTheClock := by
  intro s p a hr distinct answer
  have stored := clockListValue_eq_listCode distinct
  refine ⟨fun run => ?_, fun setup bad => ?_, fun setup l nodup operand => ?_⟩
  · rw [← stored]
    exact onlyAnswers_setting hr (decideSetting_clockList_setupOnly run)
  · rw [← stored]
    exact onlyAnswers_setting hr (decideSetting_clockList_badValue setup (clockListOperand_none bad))
  · rw [exec_setting_ready 1 a hr, decideSetting_clockList_done setup (clockListOperand_of_nibbles nodup operand),
      State.clockListWritten_eq, clockListValue_of_nibbles nodup operand, Store.putSettings_settings,
      Store.putSettings_eq_settled, Clock.relisted_eq]
    rfl

end Sys2Proof.Proofs
end

section
/-! SUPPORT. What headers and misses make of a lane, of its port's attach state and of the clock tracker (R122, R126,
R127, R142, R143, R146, R147): one equation for each case of the operations on lanes. -/

namespace Sys2Proof.Machine

open Sys2Proof.Safety Sys2Proof.Claims

/-! ### Lanes -/

theorem State.lane_eq_laneAt (s : State) (p : Port) (l : LaneId) : s.lane p l = laneAt s p l := by cases l <;> rfl

theorem PortLink.setLane_eq_linkWith (x : PortLink) (l : LaneId) (y : Lane) : x.setLane l y = linkWith x l y := by
  cases l <;> rfl

theorem State.setLane_eq_withLane (s : State) (p : Port) (l : LaneId) (y : Lane) :
    s.setLane p l y = withLane s p l y := by
  rw [State.setLane, PortLink.setLane_eq_linkWith]; rfl

theorem State.setLane_port (s : State) (p : Port) (l : LaneId) (x : Lane) (q : Port) :
    (s.setLane p l x).port q = if q = p then (s.port p).setLane l x else s.port q := State.port_setPort ..

@[simp] theorem State.lane_setLane_self (s : State) (p : Port) (l : LaneId) (x : Lane) :
    (s.setLane p l x).lane p l = x := by
  rw [State.lane, State.setLane_port, if_pos rfl, PortLink.lane_setLane_self]

@[simp] theorem State.setLane_setLane (s : State) (p : Port) (l : LaneId) (x y : Lane) :
    (s.setLane p l x).setLane p l y = s.setLane p l y := by
  rw [State.setLane, State.setLane_port, if_pos rfl, State.setLane, State.setPort_setPort]
  cases l <;> rfl

@[simp] theorem PortLink.setLane_attach (x : PortLink) (l : LaneId) (y : Lane) : (x.setLane l y).attach = x.attach := by
  cases l <;> rfl

/-- The length of the miss timer (R143). -/
theorem missTicks_eq (s : State) : missTicks s.clock.rate = missLength s := by
  rw [missLength]; cases s.clock.rate <;> rfl

/-! ### The reference lane (R122) -/

/-- The lane of a link that is the reference lane where its port is the reference. -/
def PortLink.firstUp (x : PortLink) : Option LaneId :=
  if x.primary.state = .up then some .primary else if x.secondary.state = .up then some .secondary else none

theorem State.referenceLane_eq (s : State) :
    s.referenceLane = s.clock.state.reference.bind fun r => (s.port r).firstUp.map (r, ·) := by
  refine congrArg _ (funext fun r => ?_)
  rw [PortLink.firstUp]
  split
  · rfl
  · split <;> rfl

theorem State.referenceLane_eq_some (s : State) (p : Port) (l : LaneId) :
    s.referenceLane = some (p, l) ↔ s.clock.state.reference = some p ∧ (s.port p).firstUp = some l := by
  simp only [State.referenceLane_eq, Option.bind_eq_some_iff, Option.map_eq_some_iff, Prod.mk.injEq]
  constructor
  · rintro ⟨r, reference, _, up, rfl, rfl⟩; exact ⟨reference, up⟩
  · rintro ⟨reference, up⟩; exact ⟨p, reference, l, up, rfl, rfl⟩

/-- A change of one port's link moves the reference lane only where the port is the reference. -/
theorem State.referenceLane_eq_iff {s t : State} {p : Port}
    (reference : t.clock.state.reference = s.clock.state.reference) (others : ∀ q, q ≠ p → t.port q = s.port q) :
    t.referenceLane = s.referenceLane ↔
      (s.clock.state.reference = some p → (t.port p).firstUp = (s.port p).firstUp) := by
  rw [State.referenceLane_eq, State.referenceLane_eq, reference]
  cases s.clock.state.reference with
  | none => simp
  | some r =>
    by_cases h : r = p
    · subst h
      have pair : Function.Injective fun l : LaneId => (r, l) := fun _ _ h => (Prod.mk.inj h).2
      simp [(Option.map_injective pair).eq_iff]
    · simp [h, others r h]

theorem State.referenceLane_setLane_iff (s : State) (p : Port) (l : LaneId) (x : Lane) :
    (s.setLane p l x).referenceLane = s.referenceLane ↔
      (s.clock.state.reference = some p → ((s.port p).setLane l x).firstUp = (s.port p).firstUp) := by
  have moved := State.referenceLane_eq_iff (s := s) (t := s.setLane p l x) (p := p) rfl fun q hq => by
    rw [State.setLane_port, if_neg hq]
  rwa [State.setLane_port, if_pos rfl] at moved

theorem ClockState.reference_eq_some {c : ClockState} {p : Port} :
    c.reference = some p ↔ c = .acquire p ∨ c = .locked p ∨ c = .holdover p := by
  cases c <;> simp [ClockState.reference]

theorem wouldBeReference_iff (s : State) (p : Port) (l : LaneId) :
    wouldBeReference s p l ↔
      s.clock.state.reference = some p ∧ (l = .primary ∨ (s.port p).primary.state ≠ .up) := by
  rw [wouldBeReference, ClockState.reference_eq_some]

section

variable {x : PortLink} {l : LaneId} {y : Lane}

/-- An UP lane is its port's first UP lane where it is the primary lane, or the primary lane is not UP. -/
theorem PortLink.firstUp_eq_some (up : (x.lane l).state = .up) :
    x.firstUp = some l ↔ l = .primary ∨ x.primary.state ≠ .up := by
  cases l <;> simp only [PortLink.lane] at up
  · simp [PortLink.firstUp, up]
  · by_cases first : x.primary.state = .up <;> simp [PortLink.firstUp, up, first]

/-- A lane that comes UP leaves the first UP lane as it is only beside an UP primary lane. -/
theorem PortLink.firstUp_setLane_up (before : (x.lane l).state ≠ .up) (up : y.state = .up) :
    (x.setLane l y).firstUp = x.firstUp ↔ ¬ (l = .primary ∨ x.primary.state ≠ .up) := by
  cases l <;> simp only [PortLink.lane] at before
  · by_cases second : x.secondary.state = .up <;> simp [PortLink.firstUp, PortLink.setLane, up, before, second]
  · by_cases first : x.primary.state = .up <;> simp [PortLink.firstUp, PortLink.setLane, up, before, first]

/-- A lane that was not UP and does not come UP does not count. -/
theorem PortLink.firstUp_setLane_same (before : (x.lane l).state ≠ .up) (after : y.state ≠ .up) :
    (x.setLane l y).firstUp = x.firstUp := by
  cases l <;> simp only [PortLink.lane] at before
  · exact (if_neg after).trans (if_neg before).symm
  · exact congrArg (ite _ _) ((if_neg after).trans (if_neg before).symm)

/-- A lane that falls beside another UP lane moves the first UP lane where it was the primary lane. -/
theorem PortLink.firstUp_setLane_down (before : (x.lane l).state = .up) (after : y.state ≠ .up)
    (other : (x.setLane l y).anyUp = true) : (x.setLane l y).firstUp = x.firstUp ↔ ¬ l = .primary := by
  cases l <;> simp only [PortLink.lane] at before
  · have second : x.secondary.state = .up := by simpa [PortLink.anyUp, PortLink.setLane, after] using other
    simp [PortLink.firstUp, PortLink.setLane, after, before, second]
  · have first : x.primary.state = .up := by simpa [PortLink.anyUp, PortLink.setLane, after] using other
    simp [PortLink.firstUp, PortLink.setLane, first]

end

/-! ### The predecessor after a change of lanes (R122) -/

theorem State.forgetIfLaneChanged_eq {s before : State} {changed : Prop} [Decidable changed]
    (h : s.referenceLane = before.referenceLane ↔ ¬ changed) :
    s.forgetIfLaneChanged before =
      { s with clock := if changed then { s.clock with predecessor := none } else s.clock } := by
  unfold State.forgetIfLaneChanged
  by_cases c : changed
  · rw [if_neg (by simpa [h] using c), if_pos c]; rfl
  · rw [if_pos (h.mpr c), if_neg c]

/-- There is nothing to forget. -/
theorem State.forgetIfLaneChanged_stands {s before : State}
    (h : s.clock.predecessor = none ∨ s.referenceLane = before.referenceLane) : s.forgetIfLaneChanged before = s := by
  unfold State.forgetIfLaneChanged
  split
  · rfl
  · next changed =>
    have forgotten := h.resolve_right changed
    rw [State.forget, ← forgotten]

/-! ### Attach states and the clock tracker (R126, R127, R131, R133, R134, R146, R147) -/

/-- The clock once the port stops being ATTACHED. -/
def Clock.detached (c : Clock) (p : Port) (first : Option Port) : Clock :=
  if c.state.reference = some p then c.lost first else c

theorem State.clockDetached_eq (s : State) (p : Port) :
    s.clockDetached p =
      { s with clock := s.clock.detached p (firstOf s s.clock.refused s.store.settings.clockList) } := by
  unfold State.clockDetached Clock.detached
  split
  · exact s.loseReference_eq
  · rfl

theorem State.clockAttached_eq (s : State) (p : Port) :
    s.clockAttached p = { s with
      clock := { s.clock with refused := s.clock.refused.erase p }.left
        (firstOf s (s.clock.refused.erase p) s.store.settings.clockList) } := State.leaveFree_eq _

theorem Clock.left_of_reference {c : Clock} {p : Port} (h : c.state.reference = some p) (first : Option Port) :
    c.left first = c := by
  unfold Clock.left
  split
  · next state => simp [state, ClockState.reference] at h
  · rfl

/-- From FREE, either nothing changes or the predecessor is none. -/
theorem Clock.left_cases (c : Clock) (first : Option Port) :
    (c.left first).predecessor = none ∨ c.left first = c := by
  unfold Clock.left
  split
  · exact .inl rfl
  · exact .inr rfl

theorem Clock.lost_predecessor {c : Clock} {p : Port} (h : c.state.reference = some p) (first : Option Port) :
    (c.lost first).predecessor = none := by
  unfold Clock.lost
  split
  · next state => simp [state, ClockState.reference] at h
  · cases first <;> rfl
  · rfl
  · rfl

end Sys2Proof.Machine
end

section
/-! SUPPORT and the statements on misses (R142, R143, R146): what a miss leaves of the lane, of the port and of the
clock. -/

namespace Sys2Proof.Machine

open Sys2Proof.Safety Sys2Proof.Claims

section

variable {s : State} {p : Port} {l : LaneId}

theorem State.missLane_syncing (timer : (s.lane p l).missTimer ≠ none) (syncing : (s.lane p l).state = .syncing) :
    s.missLane p l = s.dropLane p l := by
  rw [State.missLane, if_neg timer, syncing]

theorem State.missLane_counts (timer : (s.lane p l).missTimer ≠ none) (up : (s.lane p l).state = .up)
    (few : (s.lane p l).missCount < 2) :
    s.missLane p l = s.setLane p l { s.lane p l with
      missCount := (s.lane p l).missCount + 1, missTimer := some (missLength s) } := by
  rw [State.missLane, if_neg timer, ← missTicks_eq]
  dsimp only
  rw [up]
  exact if_neg (by simp only [Config.missesForDown]; omega)

theorem State.missLane_third (timer : (s.lane p l).missTimer ≠ none) (up : (s.lane p l).state = .up)
    (third : (s.lane p l).missCount = 2) : s.missLane p l = s.dropLane p l := by
  rw [State.missLane, if_neg timer, up]
  exact if_pos (by simp [Config.missesForDown, third])

/-- A lane that was not UP falls alone. -/
theorem State.dropLane_notUp (h : (s.lane p l).state ≠ .up) :
    s.dropLane p l = s.setLane p l (s.lane p l).enterDown := by
  have same : (s.setLane p l (s.lane p l).enterDown).referenceLane = s.referenceLane :=
    (s.referenceLane_setLane_iff p l _).mpr fun _ => PortLink.firstUp_setLane_same h (by simp [Lane.enterDown])
  rw [State.dropLane, if_neg h]
  exact State.forgetIfLaneChanged_stands (.inr same)

/-- An UP lane that falls beside another one leaves the port ATTACHED; the predecessor is forgotten where it was the
reference lane. -/
theorem State.dropLane_beside (up : (s.lane p l).state = .up)
    (other : ((s.port p).setLane l (s.lane p l).enterDown).anyUp = true) :
    s.dropLane p l = { s.setLane p l (s.lane p l).enterDown with
      clock := if l = .primary ∧ wouldBeReference s p l then { s.clock with predecessor := none } else s.clock } := by
  have stays : (s.setLane p l (s.lane p l).enterDown).detachPort p = s.setLane p l (s.lane p l).enterDown := by
    refine if_neg fun h => ?_
    rw [State.setLane_port, if_pos rfl, other] at h
    exact Bool.noConfusion h.2
  have moves : (s.setLane p l (s.lane p l).enterDown).referenceLane = s.referenceLane ↔
      ¬ (l = .primary ∧ wouldBeReference s p l) := by
    rw [State.referenceLane_setLane_iff, PortLink.firstUp_setLane_down up (by simp [Lane.enterDown]) other,
      wouldBeReference_iff]
    tauto
  rw [State.dropLane, if_pos up]
  dsimp only
  rw [stays, State.forgetIfLaneChanged_eq moves]
  rfl

/-- The last UP lane that falls detaches its port, and the clock tracker loses it. -/
theorem State.dropLane_last (up : (s.lane p l).state = .up) (attached : (s.port p).attach = .attached)
    (last : ((s.port p).setLane l (s.lane p l).enterDown).anyUp = false) :
    s.dropLane p l = { s with
      links := s.links.put p { (s.port p).setLane l (s.lane p l).enterDown with
        attach := .detached, graceTimer := some (Config.ms 500) }
      clock := s.clock.detached p
        (firstOf s s.clock.refused (s.store.settings.clockList.filter (· ≠ p))) } := by
  let link : PortLink := { (s.port p).setLane l (s.lane p l).enterDown with
    attach := .detached, graceTimer := some (Config.ms 500) }
  have first : firstOf (s.setPort p link) s.clock.refused s.store.settings.clockList =
      firstOf s s.clock.refused (s.store.settings.clockList.filter (· ≠ p)) := by
    simp only [firstOf, List.filter_filter]
    congr 2
    funext q
    by_cases h : q = p <;> simp [State.port_setPort, h, link]
  have detaches : (s.setLane p l (s.lane p l).enterDown).detachPort p = { s.setPort p link with
      clock := s.clock.detached p (firstOf s s.clock.refused (s.store.settings.clockList.filter (· ≠ p))) } := by
    unfold State.detachPort
    rw [State.setLane_port, if_pos rfl, if_pos ⟨by rw [PortLink.setLane_attach, attached], last⟩, State.setLane,
      State.setPort_setPort, State.clockDetached_eq, ← first]
    rfl
  rw [State.dropLane, if_pos up]
  dsimp only
  rw [detaches]
  refine State.forgetIfLaneChanged_stands ?_
  unfold Clock.detached
  split
  · next reference => exact .inl (Clock.lost_predecessor reference _)
  · next other =>
    have moved := State.referenceLane_eq_iff (s := s) (t := s.setPort p link) (p := p) rfl fun q hq => by
      rw [State.port_setPort, if_neg hq]
    exact .inr (moved.mpr fun h => (other h).elim)

end

theorem exec_miss {s t : State} {p : Port} {l : LaneId} (running : s.phase = .running) (h : s.missLane p l = t) :
    exec (.miss p l) s = .next t :=
  congrArg Host.Outcome.next ((State.whenRunning_running _ running).trans h)

/-- The rows of R131, R133 and R134 for the loss of a port. -/
theorem Clock.detached_eq (c : Clock) (p : Port) (first : Option Port) :
    c.detached p first =
      match c.state with
      | .free => c
      | .acquire r => if r ≠ p then c else acquiringOr c first
      | .locked r => if r ≠ p then c else heldOver c r
      | .holdover r => if r ≠ p then c else { c with relockRun := [], predecessor := none } := by
  cases state : c.state with
  | free => simp [Clock.detached, state, ClockState.reference]
  | acquire r | locked r | holdover r =>
    simp only [Clock.detached, state, ClockState.reference, Option.some.injEq, Clock.lost, ite_not]

end Sys2Proof.Machine

namespace Sys2Proof.Proofs

open Sys2Proof.Machine Sys2Proof.Claims

/-- Settles O37: a SYNCING lane falls alone, an UP lane counts, and the third miss takes it down beside the other UP
lane, which keeps the port ATTACHED. -/
theorem aMissCountsOrTakesTheLaneDown : Obligations.AMissCountsOrTakesTheLaneDown := by
  intro s p l running timer x other
  have lane : s.lane p l = x := s.lane_eq_laneAt p l
  have timer : (s.lane p l).missTimer ≠ none := by rwa [lane]
  simp only [← State.setLane_eq_withLane, ← PortLink.setLane_eq_linkWith, ← lane]
  refine ⟨fun syncing => ?_, fun up few => ?_, fun up third second => ?_⟩
  · exact exec_miss running ((State.missLane_syncing timer syncing).trans (State.dropLane_notUp (by simp [syncing])))
  · exact exec_miss running (State.missLane_counts timer up few)
  · refine exec_miss running ((State.missLane_third timer up third).trans (State.dropLane_beside up ?_))
    cases l <;> simpa [PortLink.anyUp, PortLink.setLane, Lane.enterDown] using second

/-- Settles O38: no lane is left UP, so the port is detached, and the clock tracker acts by its state where the port was
its reference. -/
theorem theLastLaneDownDetachesThePort : Obligations.TheLastLaneDownDetachesThePort := by
  intro s p l running timer up third attached other
  simp only [← State.lane_eq_laneAt, ← PortLink.setLane_eq_linkWith] at timer up third ⊢
  have last : ((s.port p).setLane l (s.lane p l).enterDown).anyUp = false := by
    cases l <;> simpa [PortLink.anyUp, PortLink.setLane, Lane.enterDown] using other
  refine exec_miss running ((State.missLane_third timer up third).trans ?_)
  rw [State.dropLane_last up attached last, Clock.detached_eq]
  rfl

end Sys2Proof.Proofs
end

section
/-! SUPPORT and the statements on valid headers of an UP lane and of a lane they bring UP (R121 to R124, R126, R127,
R129, R132, R134, R141, R142, R146, R147). -/

namespace Sys2Proof.Machine

open Sys2Proof.Safety Sys2Proof.Claims

/-! ### A valid header arrives (R141) -/

theorem Lane.judgeHeader_valid {count requests hi lo : Byte} (x : Lane) (checks : headerChecks count requests hi lo) :
    x.judgeHeader count requests hi lo = validCopy x count requests := by
  have valid : (crc16 [count, requests] == hi ++ lo) = true := beq_iff_eq.mpr checks
  have after (before : Byte) : (count != before + 1) = !decide (before = count - 1) := by
    rw [bne, beq_eq_decide, Bool.not_inj_iff, decide_eq_decide, eq_sub_iff_add_eq, eq_comm]
  cases previous : x.previous with
  | none => simp [Lane.judgeHeader, valid, previous]
  | some before =>
    simpa [Lane.judgeHeader, valid, previous] using after before

/-- The lane with the copy in progress as its header left it. -/
abbrev Lane.judged (x : Lane) (count requests : Byte) : Lane :=
  { x with copy := some { header := some (validCopy x count requests) } }

theorem State.arrive_valid {s : State} {p : Port} {l : LaneId} {count requests hi lo : Byte}
    (copy : (s.lane p l).copy = some { header := none }) (checks : headerChecks count requests hi lo) (tick : Nat) :
    s.arrive p l count requests hi lo tick =
      (s.setLane p l ((s.lane p l).judged count requests)).validHeader p l count tick := by
  rw [State.arrive, if_pos copy]
  dsimp only
  rw [Lane.judgeHeader_valid _ checks, if_pos rfl]

/-- A lane's copy is not read for the reference lane. -/
theorem State.referenceLane_judged (s : State) (p : Port) (l : LaneId) (count requests : Byte) :
    (s.setLane p l ((s.lane p l).judged count requests)).referenceLane = s.referenceLane :=
  (s.referenceLane_setLane_iff p l _).mpr fun _ => by cases l <;> rfl

section

variable {s : State} {p : Port} {l : LaneId} {count requests hi lo : Byte}

/-- A valid header on an UP lane clears its miss count, and is measured on the reference lane (R142, R147). -/
theorem State.arrive_up (copy : (s.lane p l).copy = some { header := none })
    (checks : headerChecks count requests hi lo) (up : (s.lane p l).state = .up) (tick : Nat) :
    s.arrive p l count requests hi lo tick =
      let t := s.setLane p l { heard s (s.lane p l) count requests with missCount := 0 }
      if s.referenceLane = some (p, l) then t.measure count tick else t := by
  have lane : ((s.lane p l).judged count requests).validHeader count (missTicks s.clock.rate) =
      { heard s (s.lane p l) count requests with missCount := 0 } := by
    simp only [Lane.validHeader, up, missTicks_eq]
  rw [State.arrive_valid copy checks, State.validHeader, State.lane_setLane_self, if_pos up, State.setLane_setLane,
    State.referenceLane_judged]
  exact congrArg (fun y => if s.referenceLane = some (p, l) then (s.setLane p l y).measure count tick
    else s.setLane p l y) lane

/-- The fourth valid header brings a SYNCING lane UP (R142). -/
theorem State.arrive_fourth (copy : (s.lane p l).copy = some { header := none })
    (checks : headerChecks count requests hi lo) (syncing : (s.lane p l).state = .syncing)
    (three : (s.lane p l).validCount = 3) (tick : Nat) :
    s.arrive p l count requests hi lo tick =
      ((s.setLane p l { heard s (s.lane p l) count requests with state := .up, validCount := 4, missCount := 0
        }).attachPort p).forgetIfLaneChanged s := by
  have lane : ((s.lane p l).judged count requests).validHeader count (missTicks s.clock.rate) =
      { heard s (s.lane p l) count requests with state := .up, validCount := 4, missCount := 0 } := by
    simp [Lane.validHeader, syncing, three, Config.validHeadersForUp, missTicks_eq]
  rw [State.arrive_valid copy checks, State.validHeader, State.lane_setLane_self, if_neg (by simp [syncing])]
  dsimp only
  rw [show State.clock (s.setLane p l _) = s.clock from rfl, lane, if_pos rfl, State.setLane_setLane,
    State.forgetIfLaneChanged, State.referenceLane_judged]
  rfl

end

theorem exec_headerArrival {s t : State} {p : Port} {l : LaneId} {count requests hi lo : Byte} {tick : Nat}
    (running : s.phase = .running) (h : s.arrive p l count requests hi lo tick = t) :
    exec (.headerArrival p l count requests hi lo tick) s = .next t :=
  congrArg Host.Outcome.next ((State.whenRunning_running _ running).trans h)

/-! ### The port attaches (R126, R127, R146) -/

section

variable {s : State} {p : Port} {l : LaneId} {y : Lane}

/-- A lane comes UP on an ATTACHED port. -/
theorem State.laneUp_attached (before : (s.lane p l).state ≠ .up) (up : y.state = .up)
    (attached : (s.port p).attach = .attached) :
    ((s.setLane p l y).attachPort p).forgetIfLaneChanged s = { s.setLane p l y with
      clock := if wouldBeReference s p l then { s.clock with predecessor := none } else s.clock } := by
  have stays : (s.setLane p l y).attachPort p = s.setLane p l y :=
    if_pos (by rw [State.setLane_attach, attached])
  have moves : (s.setLane p l y).referenceLane = s.referenceLane ↔ ¬ wouldBeReference s p l := by
    rw [State.referenceLane_setLane_iff, PortLink.firstUp_setLane_up before up, wouldBeReference_iff]
    tauto
  rw [stays, State.forgetIfLaneChanged_eq moves]
  rfl

/-- The first candidate once the port has attached and these ports are refused. -/
abbrev State.firstWith (s : State) (p : Port) (refused : List Port) : Option Port :=
  (s.store.settings.clockList.filter fun q => (q = p ∨ (s.port q).attach = .attached) ∧ q ∉ refused).head?

/-- A port that was not ATTACHED leaves the refused set, and FREE is left for the first candidate. -/
theorem State.attachPort_fresh (fresh : (s.port p).attach ≠ .attached) (x : PortLink)
    (hx : x.attach = (s.port p).attach) :
    (s.setPort p x).attachPort p = { s.setPort p { x with attach := .attached, graceTimer := none } with
      clock := { s.clock with refused := s.clock.refused.erase p }.left
        (s.firstWith p (s.clock.refused.erase p)) } := by
  have attach (q : Port) : ((s.setPort p { x with attach := .attached, graceTimer := none }).port q).attach =
      .attached ↔ q = p ∨ (s.port q).attach = .attached := by
    by_cases h : q = p <;> simp [State.port_setPort, h]
  have first : firstOf (s.setPort p { x with attach := .attached, graceTimer := none }) (s.clock.refused.erase p)
      s.store.settings.clockList = s.firstWith p (s.clock.refused.erase p) := by
    simp only [firstOf, attach, State.firstWith]
  rw [State.attachPort, State.port_setPort, if_pos rfl, if_neg (by rwa [hx]), State.setPort_setPort,
    State.clockAttached_eq, ← first]
  rfl

/-- A lane comes UP on a port that was not ATTACHED; the predecessor is forgotten where the lane is the reference
lane. -/
theorem State.laneUp_attaches (before : (s.lane p l).state ≠ .up) (up : y.state = .up)
    (fresh : (s.port p).attach ≠ .attached) :
    ((s.setLane p l y).attachPort p).forgetIfLaneChanged s =
      { s.setPort p { (s.port p).setLane l y with attach := .attached, graceTimer := none } with
        clock := Clock.left { (if wouldBeReference s p l then { s.clock with predecessor := none } else s.clock) with
          refused := s.clock.refused.erase p } (s.firstWith p (s.clock.refused.erase p)) } := by
  have attaches := State.attachPort_fresh fresh ((s.port p).setLane l y) (by simp)
  have lanes : ((s.setPort p { (s.port p).setLane l y with attach := .attached, graceTimer := none }).port p).firstUp =
      ((s.port p).setLane l y).firstUp := by
    rw [State.port_setPort, if_pos rfl]; rfl
  have moved := State.referenceLane_eq_iff (s := s) (p := p)
    (t := s.setPort p { (s.port p).setLane l y with attach := .attached, graceTimer := none }) rfl fun q hq => by
      rw [State.port_setPort, if_neg hq]
  rw [lanes, PortLink.firstUp_setLane_up before up] at moved
  rw [State.setLane, attaches]
  generalize s.firstWith p (s.clock.refused.erase p) = first
  by_cases would : wouldBeReference s p l
  · obtain ⟨reference, first⟩ := (wouldBeReference_iff s p l).mp would
    rw [if_pos would, Clock.left_of_reference (p := p) (by exact reference),
      Clock.left_of_reference (p := p) (by exact reference)]
    exact if_neg fun same => moved.mp same reference first
  · rw [if_neg would]
    refine State.forgetIfLaneChanged_stands ?_
    rcases Clock.left_cases { s.clock with refused := s.clock.refused.erase p } first with forgotten | same
    · exact .inl forgotten
    · rw [same]
      exact .inr (moved.mpr fun reference first => would ((wouldBeReference_iff s p l).mpr ⟨reference, first⟩))

end

/-! ### Intervals (R121, R123, R124, R129, R132, R134) -/

theorem meanOf_eq_mean (l : List Int) : meanOf l = mean l := by
  rw [meanOf, Rat.mkRat_eq_div]

theorem Clock.steer_eq_steered (c : Clock) (d : Int) : c.steer d = steered c d := by
  rw [Clock.steer, meanOf_eq_mean]; rfl

theorem State.goodInterval_eq (s : State) (d : Int) : s.goodInterval d = { s with clock := afterGood s.clock d } := by
  cases state : s.clock.state with
  | free => simp only [State.goodInterval, afterGood, state]
  | acquire r =>
    simp only [State.goodInterval, afterGood, state, Clock.steer_eq_steered, Config.lockIntervals]
    by_cases few : s.clock.inWindow + 1 < 8
    · rw [if_neg (by omega), if_pos few]
    · rw [if_pos (by omega), if_neg few]
  | locked r => simp only [State.goodInterval, afterGood, state, Clock.steer_eq_steered]
  | holdover r =>
    simp only [State.goodInterval, afterGood, state, meanOf_eq_mean, Config.lockIntervals, List.length_append,
      List.length_singleton]
    by_cases few : s.clock.relockRun.length + 1 < 8
    · rw [if_neg (by omega), if_pos few]
    · rw [if_pos (by omega), if_neg few]

theorem State.badInterval_eq (s : State) : s.badInterval = { s with clock := afterBad s.clock } := by
  cases state : s.clock.state with
  | free | acquire r | holdover r => simp only [State.badInterval, afterBad, state]
  | locked r =>
    simp only [State.badInterval, afterBad, state, Config.missesForDown]
    by_cases few : s.clock.misses + 1 < 3
    · rw [if_neg (by omega), if_pos few]
    · rw [if_pos (by omega), if_neg few]; rfl

theorem nominalCycle_eq_nominalTicks (c : Clock) : ((nominalCycle c.rate : Nat) : Int) = nominalTicks c := by
  rw [nominalCycle_eq, nominalTicks]; split <;> rfl

theorem State.inWindow_iff (s : State) (d : Int) :
    s.inWindow d = true ↔
      nominalTicks s.clock - s.store.settings.window ≤ d ∧ d ≤ nominalTicks s.clock + s.store.settings.window := by
  rw [State.inWindow, nominalCycle_eq_nominalTicks, decide_eq_true_eq]
  omega

/-- A header is measured while the reference is available (R123). -/
theorem State.measure_eq (s : State) (count : Byte) (tick : Nat) :
    s.measure count tick =
      if s.clock.state.reference.any s.available then
        { s with clock := measured s.clock s.store.settings.window count tick }
      else s := by
  unfold State.measure measured
  split
  · cases s.clock.predecessor with
    | none => rfl
    | some before =>
      dsimp only
      split
      · simp only [State.inWindow_iff, State.goodInterval_eq, State.badInterval_eq]
        split <;> rfl
      · rfl
  · rfl

theorem State.available_iff (s : State) (r : Port) : s.available r = true ↔ referenceAvailable s r := by
  simp [State.available, State.attached, State.listed, referenceAvailable]

end Sys2Proof.Machine

namespace Sys2Proof.Proofs

open Sys2Proof.Machine Sys2Proof.Claims Sys2Proof.Safety

/-- Settles O35: the lane comes UP, on a port that was ATTACHED or that now attaches. -/
theorem theFourthValidHeaderBringsTheLaneUp : Obligations.TheFourthValidHeaderBringsTheLaneUp := by
  intro s p l count requests hi lo tick running copy checks syncing three
  simp only [← State.lane_eq_laneAt, ← PortLink.setLane_eq_linkWith] at copy syncing three ⊢
  have notUp : (s.lane p l).state ≠ .up := by simp [syncing]
  refine exec_headerArrival running ((State.arrive_fourth copy checks syncing three tick).trans ?_)
  split
  · next attached => exact State.laneUp_attached notUp rfl attached
  · next fresh =>
    rw [State.laneUp_attaches notUp rfl fresh]
    have state : (if wouldBeReference s p l then { s.clock with predecessor := none } else s.clock).state =
        s.clock.state := by split <;> rfl
    simp only [Clock.left, state]
    rfl

/-- Settles O36: an UP lane is the reference lane where it would be, and its header is then measured. -/
theorem aHeaderOfTheReferenceLaneIsMeasured : Obligations.AHeaderOfTheReferenceLaneIsMeasured := by
  intro s p l count requests hi lo tick running copy checks up
  simp only [← State.lane_eq_laneAt, ← State.setLane_eq_withLane, ← PortLink.setLane_eq_linkWith] at copy up ⊢
  refine exec_headerArrival running ((State.arrive_up copy checks up tick).trans ?_)
  have reference : s.referenceLane = some (p, l) ↔ wouldBeReference s p l := by
    rw [State.referenceLane_eq_some, PortLink.firstUp_eq_some up, wouldBeReference_iff]
  have available (would : wouldBeReference s p l) (y : Lane) :
      (s.setLane p l y).clock.state.reference.any (s.setLane p l y).available = true ↔
        (s.port p).attach = .attached ∧ p ∈ s.store.settings.clockList := by
    obtain ⟨reference, -⟩ := (wouldBeReference_iff s p l).mp would
    rw [show (s.setLane p l y).clock.state.reference = some p from reference, Option.any_some, State.available_iff,
      referenceAvailable, State.setLane_attach]
    rfl
  dsimp only
  by_cases would : wouldBeReference s p l
  · rw [if_pos (reference.mpr would), State.measure_eq]
    exact if_congr ((available would _).trans (and_iff_right would).symm) rfl rfl
  · rw [if_neg (mt reference.mp would), if_neg fun h => would h.1]

end Sys2Proof.Proofs
end

section
/-! SUPPORT. The laws of the port links through every command: lanes and attach states (R142, R143, R146), and the two
queues (R149 to R151). -/

namespace Sys2Proof.Machine

open Sys2Proof.Safety Sys2Proof.Claims

/-! ### The laws of a link, apart -/

/-- Lanes, attach state and grace timer of a link are lawful (R142, R143, R146). -/
structure PortLink.Lanes (x : PortLink) : Prop where
  primary : laneOk x.primary
  secondary : laneOk x.secondary
  attached : x.attach = .attached ↔ x.primary.state = .up ∨ x.secondary.state = .up
  grace : x.graceTimer.isSome ↔ x.attach = .detached

/-- Each queue holds at most 8 (R149, R150). -/
structure PortLink.Bounded (x : PortLink) : Prop where
  requests : x.requests.length ≤ 8
  responses : x.responses.length ≤ 8

/-- Besides, no waiting request has a place to be taken (R150). -/
theorem linkOk_iff (x : PortLink) : linkOk x ↔ x.Lanes ∧ x.Bounded ∧ x.taking = [] := by
  have waits (h : x.responses.length ≤ 8) : x.taking = [] ↔ (x.requests ≠ [] → x.responses.length = 8) := by
    rw [PortLink.taking, List.take_eq_nil_iff]
    by_cases empty : x.requests = [] <;> simp [empty]
    omega
  constructor
  · rintro ⟨primary, secondary, attached, grace, requests, responses, full⟩
    exact ⟨⟨primary, secondary, attached, grace⟩, ⟨requests, responses⟩, (waits responses).mpr full⟩
  · rintro ⟨⟨primary, secondary, attached, grace⟩, ⟨requests, responses⟩, full⟩
    exact ⟨primary, secondary, attached, grace, requests, responses, (waits responses).mp full⟩

/-- Queues with the same lanes, attach state and grace timer. -/
theorem PortLink.Lanes.withQueues {x : PortLink} (h : x.Lanes) (requests : List Request) (responses : List Response) :
    PortLink.Lanes { x with requests := requests, responses := responses } :=
  ⟨h.primary, h.secondary, h.attached, h.grace⟩

theorem linksOk_setPort {s : State} {p : Port} {x : PortLink} (ok : linksOk s) (h : linkOk x) :
    linksOk (s.setPort p x) := by
  intro q
  rw [State.port_setPort]
  split
  · exact h
  · exact ok q

theorem linksOk_of_links {s t : State} (ok : linksOk s) (h : t.links = s.links) : linksOk t := fun p => by
  rw [State.port, h]; exact ok p

theorem ClockOnly.links {s t : State} (h : ClockOnly s t) : t.links = s.links := by rw [h]

/-! ### Lanes that fall and lanes that are heard (R142, R143, R146) -/

theorem laneOk_enterDown (x : Lane) : laneOk x.enterDown := ⟨rfl, rfl, rfl, rfl⟩

/-- A lane that changes between DOWN and SYNCING, or stays UP, leaves the port's attach state lawful. -/
theorem linkOk_setLane {x : PortLink} {l : LaneId} {y : Lane} (h : linkOk x) (lane : laneOk y)
    (same : y.state = .up ↔ (x.lane l).state = .up) : linkOk (x.setLane l y) := by
  obtain ⟨primary, secondary, attached, rest⟩ := h
  cases l <;> simp only [PortLink.lane] at same
  · exact ⟨lane, secondary, by simpa only [PortLink.setLane, same] using attached, rest⟩
  · exact ⟨primary, lane, by simpa only [PortLink.setLane, same] using attached, rest⟩

theorem linkOk_lane {x : PortLink} (h : linkOk x) (l : LaneId) : laneOk (x.lane l) := by
  obtain ⟨primary, secondary, -⟩ := h
  cases l
  · exact primary
  · exact secondary

theorem linksOk_setLane {s : State} {p : Port} {l : LaneId} {y : Lane} (ok : linksOk s) (lane : laneOk y)
    (same : y.state = .up ↔ (s.lane p l).state = .up) : linksOk (s.setLane p l y) :=
  linksOk_setPort ok (linkOk_setLane (ok p) lane same)

/-- An ATTACHED port whose last UP lane falls becomes DETACHED. -/
theorem linkOk_detached {x : PortLink} {l : LaneId} (h : linkOk x)
    (last : (x.setLane l (x.lane l).enterDown).anyUp = false) :
    linkOk { x.setLane l (x.lane l).enterDown with attach := .detached, graceTimer := some Config.graceTicks } := by
  obtain ⟨primary, secondary, attached, grace, queues⟩ := h
  have down := laneOk_enterDown (x.lane l)
  cases l
  · have second : x.secondary.state ≠ .up := by
      simpa [PortLink.anyUp, PortLink.setLane, Lane.enterDown] using last
    exact ⟨down, secondary, by simp [PortLink.setLane, Lane.enterDown, second], by simp, queues⟩
  · have first : x.primary.state ≠ .up := by
      simpa [PortLink.anyUp, PortLink.setLane, Lane.enterDown] using last
    exact ⟨primary, down, by simp [PortLink.setLane, Lane.enterDown, first], by simp, queues⟩

/-- An UP lane that falls beside another UP lane leaves its port ATTACHED. -/
theorem linkOk_beside {x : PortLink} {l : LaneId} (h : linkOk x) (up : (x.lane l).state = .up)
    (other : (x.setLane l (x.lane l).enterDown).anyUp = true) : linkOk (x.setLane l (x.lane l).enterDown) := by
  obtain ⟨primary, secondary, attached, rest⟩ := h
  have down := laneOk_enterDown (x.lane l)
  cases l <;> simp only [PortLink.lane] at up
  · have second : x.secondary.state = .up := by
      simpa [PortLink.anyUp, PortLink.setLane, Lane.enterDown] using other
    exact ⟨down, secondary, by simp [PortLink.setLane, attached, second], rest⟩
  · have first : x.primary.state = .up := by
      simpa [PortLink.anyUp, PortLink.setLane, Lane.enterDown] using other
    exact ⟨primary, down, by simp [PortLink.setLane, attached, first], rest⟩

/-- A lane that comes UP attaches its port. -/
theorem linkOk_attached {x : PortLink} {l : LaneId} {y : Lane} (h : linkOk x) (lane : laneOk y) (up : y.state = .up) :
    linkOk { x.setLane l y with attach := .attached, graceTimer := none } := by
  obtain ⟨primary, secondary, attached, grace, queues⟩ := h
  cases l
  · exact ⟨lane, secondary, by simp [PortLink.setLane, up], by simp, queues⟩
  · exact ⟨primary, lane, by simp [PortLink.setLane, up], by simp, queues⟩

section

variable {s : State} {p : Port} {l : LaneId}

theorem attached_of_lane_up (ok : linksOk s) (up : (s.lane p l).state = .up) : (s.port p).attach = .attached := by
  obtain ⟨-, -, attached, -⟩ := ok p
  cases l
  · exact attached.mpr (.inl up)
  · exact attached.mpr (.inr up)

theorem linksOk_dropLane (ok : linksOk s) (p : Port) (l : LaneId) : linksOk (s.dropLane p l) := by
  by_cases up : (s.lane p l).state = .up
  · have lane : s.lane p l = (s.port p).lane l := rfl
    cases others : ((s.port p).setLane l (s.lane p l).enterDown).anyUp with
    | false =>
      rw [State.dropLane_last up (attached_of_lane_up ok up) others]
      exact linksOk_of_links (linksOk_setPort ok (linkOk_detached (ok p) others)) rfl
    | true =>
      rw [State.dropLane_beside up others]
      exact linksOk_of_links (linksOk_setPort ok (linkOk_beside (ok p) up others)) rfl
  · rw [State.dropLane_notUp up]
    exact linksOk_setLane ok (laneOk_enterDown _) (by simp [Lane.enterDown, up])

theorem linksOk_missLane (ok : linksOk s) (p : Port) (l : LaneId) : linksOk (s.missLane p l) := by
  have lane := linkOk_lane (ok p) l
  unfold State.missLane
  dsimp only
  split
  · exact ok
  split
  · exact ok
  · exact linksOk_dropLane ok p l
  · next up =>
    split
    · exact linksOk_dropLane ok p l
    · next few =>
      refine linksOk_setLane ok ?_ Iff.rfl
      rw [show (s.port p).lane l = s.lane p l from rfl] at lane
      simp only [laneOk, up] at lane ⊢
      obtain ⟨valid, -, -, previous⟩ := lane
      exact ⟨valid, by simp only [Config.missesForDown] at few; omega, rfl, previous⟩

/-- A valid header leaves the lane lawful (R142). -/
theorem laneOk_validHeader {x : Lane} (h : laneOk x) (count : Byte) (ticks : Nat) :
    laneOk (x.validHeader count ticks) := by
  cases state : x.state with
  | down =>
    simp only [laneOk, state] at h
    obtain ⟨-, misses, -⟩ := h
    simp [laneOk, Lane.validHeader, state, misses]
  | syncing =>
    simp only [laneOk, state] at h
    obtain ⟨-, valid, misses, -⟩ := h
    by_cases fourth : 4 ≤ x.validCount + 1
    · simp only [laneOk, Lane.validHeader, state, Config.validHeadersForUp, fourth, if_true]
      exact ⟨by omega, by decide, rfl, rfl⟩
    · simp only [laneOk, Lane.validHeader, state, Config.validHeadersForUp, fourth, if_false]
      exact ⟨by omega, by omega, misses, rfl, rfl⟩
  | up =>
    simp only [laneOk, state] at h
    obtain ⟨valid, -⟩ := h
    simp [laneOk, Lane.validHeader, state, valid]

theorem Lane.validHeader_up {x : Lane} (up : x.state = .up) (count : Byte) (ticks : Nat) :
    (x.validHeader count ticks).state = .up := by
  simp [Lane.validHeader, up]

/-- A further lane comes UP on an ATTACHED port. -/
theorem linkOk_further {x : PortLink} {y : Lane} (h : linkOk x) (lane : laneOk y) (up : y.state = .up)
    (attached : x.attach = .attached) : linkOk (x.setLane l y) := by
  obtain ⟨primary, secondary, -, rest⟩ := h
  cases l
  · exact ⟨lane, secondary, by simp [PortLink.setLane, up, attached], rest⟩
  · exact ⟨primary, lane, by simp [PortLink.setLane, up, attached], rest⟩

theorem linksOk_validHeader (ok : linksOk s) (p : Port) (l : LaneId) (count : Byte) (tick : Nat) :
    linksOk (s.validHeader p l count tick) := by
  have lane := laneOk_validHeader (linkOk_lane (ok p) l) count (missTicks s.clock.rate)
  unfold State.validHeader
  dsimp only
  split
  · next up =>
    have heard : linksOk (s.setLane p l ((s.lane p l).validHeader count (missTicks s.clock.rate))) :=
      linksOk_setLane ok lane (iff_of_true (Lane.validHeader_up up _ _) up)
    split
    · exact linksOk_of_links heard (clockOnly_measure _ count tick).links
    · exact heard
  · next notUp =>
    split
    · next up =>
      by_cases attached : (s.port p).attach = .attached
      · rw [State.laneUp_attached notUp up attached]
        exact linksOk_of_links (linksOk_setPort ok (linkOk_further (ok p) lane up attached)) rfl
      · rw [State.laneUp_attaches notUp up attached]
        exact linksOk_of_links (linksOk_setPort ok (linkOk_attached (ok p) lane up)) rfl
    · next stillNotUp => exact linksOk_setLane ok lane (iff_of_false stillNotUp notUp)

/-- The copy in progress and the lane status are not read by the laws (R141, R144). -/
theorem linksOk_setCopy (ok : linksOk s) (p : Port) (l : LaneId) (copy : Option CopyInProgress) (status : LaneStatus) :
    linksOk (s.setLane p l { s.lane p l with copy := copy, status := status }) :=
  linksOk_setLane ok (linkOk_lane (ok p) l) Iff.rfl

theorem linksOk_arrive (ok : linksOk s) (p : Port) (l : LaneId) (count requests hi lo : Byte) (tick : Nat) :
    linksOk (s.arrive p l count requests hi lo tick) := by
  unfold State.arrive
  dsimp only
  split
  · split
    · exact linksOk_validHeader (linksOk_setCopy ok p l _ _) p l count tick
    · exact linksOk_setCopy ok p l _ _
  · exact ok

end

/-! ### Requests that join and are taken (R149 to R151) -/

/-- Takes keep lanes, attach state and bounds. -/
theorem PortLink.Takes.lanes {x y : PortLink} (h : x.Takes y) (lanes : x.Lanes) : y.Lanes := by
  rw [h.frame]; exact lanes.withQueues _ _

theorem PortLink.Takes.bounded {x y : PortLink} (h : x.Takes y) (bounded : x.Bounded) : y.Bounded := by
  induction h with
  | none => exact bounded
  | one _ queue place _ _ ih =>
    have count := bounded.requests
    rw [queue, List.length_cons] at count
    exact ih ⟨by simp only [PortLink.answered]; omega, by simp [PortLink.answered]; omega⟩

/-- Where takes leave no request that has a place, the links are lawful. -/
theorem linksOk_taken {s t : State} (taken : Taken s t) (lanes : ∀ q, (s.port q).Lanes)
    (bounded : ∀ q, (s.port q).Bounded) (full : ∀ q, (t.port q).taking = []) : linksOk t := fun q =>
  (linkOk_iff _).mpr ⟨(taken.takes q).lanes (lanes q), (taken.takes q).bounded (bounded q), full q⟩

section

variable {s : State}

theorem linksOk_join (ok : linksOk s) (p : Port) (r : Request) : linksOk (s.join p r) := by
  have lanes (q : Port) : (s.port q).Lanes := ((linkOk_iff _).mp (ok q)).1
  obtain ⟨bounded, full⟩ := forall_and.mp fun q => ((linkOk_iff (s.port q)).mp (ok q)).2
  unfold State.join
  split
  · next place =>
    have joined (q : Port) := State.port_setPort s p q { s.port p with requests := (s.port p).requests ++ [r] }
    refine linksOk_taken (taken_drain _ p) (fun q => ?_) (fun q => ?_) fun q => ?_
    · rw [joined]
      split
      · exact (lanes p).withQueues _ _
      · exact lanes q
    · rw [joined]
      split
      · exact ⟨by simpa [Config.queuePlaces] using place, (bounded p).responses⟩
      · exact bounded q
    · rw [State.drain_taking, joined]
      split
      · rfl
      · exact full q
  · exact linksOk_setPort ok (ok p)

theorem linksOk_request (ok : linksOk s) (p : Port) (r : Request) : linksOk (s.request p r) := by
  unfold State.request
  split
  · exact ok
  · exact linksOk_join ok p r

theorem linksOk_takeCopy (ok : linksOk s) (p : Port) (l : LaneId) (count : Byte) (frames : List Request) :
    linksOk (s.takeCopy p l count frames) := by
  have joins : ∀ t, linksOk t → linksOk (frames.foldl (fun t r => t.join p r) t) := by
    induction frames with
    | nil => exact fun _ => id
    | cons r frames ih => exact fun t ht => ih _ (linksOk_join ht p r)
  exact joins _ (linksOk_setPort ok (ok p))

theorem linksOk_endCopy (ok : linksOk s) (p : Port) (l : LaneId) (rest : List Byte) :
    linksOk (s.endCopy p l rest) := by
  unfold State.endCopy
  dsimp only
  split
  · exact ok
  · exact linksOk_of_links (linksOk_setCopy ok p l none _) rfl
  · split
    · exact linksOk_takeCopy (linksOk_setCopy ok p l none _) p l _ _
    · exact linksOk_setCopy ok p l none _

/-- What is sent on the lanes is not read by the laws (R149, R152). -/
theorem linksOk_sendDownlinks (ok : linksOk s) (count : Byte) (leaving : Vector (List Response) 4) :
    linksOk (s.sendDownlinks count leaving) := fun q => by
  rw [State.sendDownlinks_port]
  exact ok q

/-- A cycle start lets responses leave and takes what then finds a place (R151). -/
theorem linksOk_startCycle (ok : linksOk s) (schedule : List Port) : linksOk (s.startCycle schedule) := by
  have taken : linksOk (s.freed.takeWaiting schedule) := by
    refine linksOk_taken (taken_takeWaiting _ schedule) (fun q => ?_) (fun q => ?_)
      (State.takeWaiting_taking _ schedule)
    all_goals
      obtain ⟨lanes, ⟨requests, responses⟩, -⟩ := (linkOk_iff _).mp (ok q)
      rw [State.freed_port]
    · exact lanes.withQueues _ _
    · exact ⟨requests, by rw [List.length_drop]; omega⟩
  have sent := linksOk_sendDownlinks taken (Claims.nextCount s) (.fill fun p => (s.port p).responses.take 4)
  exact fun q => by rw [State.startCycle_port]; exact sent q

/-! ### Port loss (R148) and start -/

theorem linkOk_lose {x : PortLink} (h : linkOk x) (detached : x.attach = .detached) : linkOk x.lose := by
  obtain ⟨primary, secondary, attached, -⟩ := h
  refine ⟨primary, secondary, ?_, by simp [PortLink.lose], by simp [PortLink.lose]⟩
  rw [PortLink.lose, ← attached, detached]
  simp

theorem SameButHands.links {s t : State} (h : SameButHands s t) : t.links = s.links := congrArg (·.links) h

theorem State.loseWatches_loseMaps_links (s : State) (p : Port) : ((s.loseMaps p).loseWatches p).links = s.links := rfl

/-- The state in which the lost port's link, units, maps and watches are as the loss leaves them, before the clock
tracker is told. -/
def State.lostBeforeClock (s : State) (p : Port) : State :=
  (((s.setPort p (s.port p).lose).loseHoldings p).loseMaps p).loseWatches p

theorem State.losePort_eq (s : State) (p : Port) :
    s.losePort p =
      let t := (s.lostBeforeClock p).clockDetached p
      if s.store.factoryPort = some p then t.beginRestart else t := rfl

theorem State.lostBeforeClock_links (holdings : holdingsOk s) (p : Port) :
    (s.lostBeforeClock p).links = (s.setPort p (s.port p).lose).links := by
  have loses := State.loses_loseHoldings (s := s.setPort p (s.port p).lose) holdings p
  rw [State.lostBeforeClock, State.loseWatches_loseMaps_links, loses.frame.links]

theorem linksOk_losePort (ok : linksOk s) (holdings : holdingsOk s) {p : Port}
    (detached : (s.port p).attach = .detached) : linksOk (s.losePort p) := by
  have lost : linksOk ((s.lostBeforeClock p).clockDetached p) :=
    linksOk_of_links (linksOk_setPort ok (linkOk_lose (ok p) detached))
      ((clockOnly_clockDetached _ p).links.trans (State.lostBeforeClock_links holdings p))
  rw [State.losePort_eq]
  dsimp only
  split
  · exact fun q => by rw [State.beginRestart_port]; exact lost q
  · exact lost

end

theorem linksOk_startUp (s : State) : linksOk s.startUp := by
  intro p
  rw [show s.startUp.port p = PortLink.reset from Vector.pick_fill _ _]
  refine ⟨⟨rfl, rfl, rfl, rfl⟩, ⟨rfl, rfl, rfl, rfl⟩, by decide, by decide, by decide, by decide, ?_⟩
  exact fun h => (h rfl).elim

end Sys2Proof.Machine
end

section
/-! SUPPORT. Every command keeps the links lawful; and what the laws of the clock tracker read of a state, which the
other blocks leave alone. -/

namespace Sys2Proof.Machine

open Sys2Proof.Safety Sys2Proof.Claims

/-! ### The links through every command -/

theorem State.changeGroup_links (s : State) (g : GroupNo) (x : PhantomGroup) : (s.changeGroup g x).links = s.links := by
  have same : s.changeGroup g x = (s.changeGroup g x).withLinks s.links := s.changeGroup_withLinks s.links g x
  rw [same, State.withLinks_links]

theorem State.writeDefaults_links (s : State) : s.writeDefaults.links = s.links := by
  unfold State.writeDefaults; split <;> rfl

theorem State.endCycle_links (s : State) (samples : CycleSamples) : (s.endCycle samples).links = s.links := by
  simp only [State.endCycle, State.evaluateWatches, State.setStickies, State.takeSamples, State.handRecords,
    State.endFrontEnd]

theorem linksOk_whenRunning {s t : State} (ok : linksOk s) (h : linksOk t) : linksOk (s.whenRunning t) := by
  unfold State.whenRunning
  split
  · exact h
  · exact ok

theorem exec_linksOk {c : Instr} {s t : State} (ok : linksOk s) (holdings : holdingsOk s) (h : exec c s = .next t) :
    linksOk t := by
  have requests (p : Port) (r : Request) : linksOk (s.whenRunning (s.request p r)) :=
    linksOk_whenRunning ok (linksOk_request ok p r)
  have running {t : State} (h : t.links = s.links) : linksOk (s.whenRunning t) :=
    linksOk_whenRunning ok (linksOk_of_links ok h)
  cases c <;> cases h
  case copyStart p l rest => exact linksOk_whenRunning ok (linksOk_setCopy (linksOk_endCopy ok p l rest) p l _ _)
  case signalLoss p l rest => exact linksOk_whenRunning ok (linksOk_endCopy ok p l rest)
  case headerArrival p l count n hi lo tick => exact linksOk_whenRunning ok (linksOk_arrive ok p l count n hi lo tick)
  case miss p l => exact linksOk_whenRunning ok (linksOk_missLane ok p l)
  case graceExpiry p =>
    refine linksOk_whenRunning ok ?_
    split
    · next expires => exact linksOk_losePort ok holdings expires.1
    · exact ok
  case cycleStart schedule => exact linksOk_whenRunning ok (linksOk_startCycle ok schedule)
  case cycleEnd samples => exact running (s.endCycle_links samples)
  case modeTimerExpiry i => exact running rfl
  case chargeTimerExpiry g => exact running (s.changeGroup_links g _)
  case dischargeTimerExpiry g => exact running (s.changeGroup_links g _)
  case lowSenseTimerExpiry g => exact running (s.changeGroup_links g _)
  case faultVoidTimerExpiry g => exact running rfl
  case senseChange g level => exact linksOk_of_links ok rfl
  case acquireTimerExpiry => exact running (clockOnly_acquireExpired s).links
  case holdoverTimerExpiry => exact running (clockOnly_holdoverExpired s).links
  case quietTimerExpiry => exact running (by split <;> rfl)
  case ceilingTimerExpiry => exact running (by split <;> rfl)
  case frontEndWriteComplete =>
    split
    · exact linksOk_of_links ok rfl
    · exact linksOk_of_links ok (State.writeDefaults_links _)
    · exact ok
  case settingsWriteComplete =>
    split
    · exact linksOk_of_links ok rfl
    · exact linksOk_of_links ok (State.writeDefaults_links _)
    · exact ok
  case factoryWriteComplete =>
    split
    · exact linksOk_of_links ok rfl
    · exact linksOk_startUp _
    all_goals exact ok
  case setupSwitchTurn x => exact linksOk_of_links ok rfl
  case powerOn a b => exact linksOk_startUp _
  case powerLoss => exact linksOk_of_links ok rfl
  all_goals exact requests _ _

/-! ### What the laws of the clock tracker read -/

/-- Besides the attach states: the phase of the run, the clock, and the settings in force, stored and being written. -/
def State.timekeeping (s : State) : Phase × Clock × Settings × SettingsCopy × Option SettingsWrite :=
  (s.phase, s.clock, s.store.settings, s.store.settingsCopy, s.store.settingsWrite)

/-- `t` keeps time like `s`: the laws of the clock tracker cannot tell them apart. -/
structure TimedLike (s t : State) : Prop where
  timekeeping : t.timekeeping = s.timekeeping
  attach : ∀ p, (t.port p).attach = (s.port p).attach

namespace TimedLike

variable {s t u : State}

theorem trans (h : TimedLike s t) (h' : TimedLike t u) : TimedLike s u :=
  ⟨h'.timekeeping.trans h.timekeeping, fun p => (h'.attach p).trans (h.attach p)⟩

theorem of_links (timekeeping : t.timekeeping = s.timekeeping) (links : t.links = s.links) : TimedLike s t :=
  ⟨timekeeping, fun p => by rw [State.port, links]; rfl⟩

theorem phase (h : TimedLike s t) : t.phase = s.phase := congrArg Prod.fst h.timekeeping

theorem clock (h : TimedLike s t) : t.clock = s.clock := congrArg (·.2.1) h.timekeeping

theorem settings (h : TimedLike s t) : t.store.settings = s.store.settings := congrArg (·.2.2.1) h.timekeeping

theorem settingsCopy (h : TimedLike s t) : t.store.settingsCopy = s.store.settingsCopy :=
  congrArg (·.2.2.2.1) h.timekeeping

theorem settingsWrite (h : TimedLike s t) : t.store.settingsWrite = s.store.settingsWrite :=
  congrArg (·.2.2.2.2) h.timekeeping

end TimedLike

/-! ### The other blocks' operations -/

theorem foldl_timekeeping {α : Type} {f : State → α → State} (hf : ∀ s a, (f s a).timekeeping = s.timekeeping)
    (l : List α) (s : State) : (l.foldl f s).timekeeping = s.timekeeping := by
  induction l generalizing s with
  | nil => rfl
  | cons a l ih => exact (ih (f s a)).trans (hf s a)

theorem SameButHands.timekeeping {s t : State} (h : SameButHands s t) : t.timekeeping = s.timekeeping :=
  congrArg (·.timekeeping) h

section

variable (s : State) (p : Port)

@[simp] theorem State.setMaps_timekeeping (m : PortMaps) : (s.setMaps p m).timekeeping = s.timekeeping := rfl

@[simp] theorem State.unlinkPair_timekeeping (k : PairNo) : (s.unlinkPair k).timekeeping = s.timekeeping := rfl

@[simp] theorem State.setQueue_timekeeping (u : InputNo) (queue : List Port) :
    (s.setQueue u queue).timekeeping = s.timekeeping := rfl

@[simp] theorem State.withdraw_timekeeping (u : InputNo) : (s.withdraw u p).timekeeping = s.timekeeping := rfl

@[simp] theorem State.writeDraft_timekeeping (k : SlotNo) (e : Option SlotEntry) :
    (s.writeDraft p k e).timekeeping = s.timekeeping := rfl

@[simp] theorem State.release_timekeeping (u : InputNo) : (s.release u p).timekeeping = s.timekeeping :=
  (s.handed_release u p).frame.timekeeping

@[simp] theorem State.grant_timekeeping (u : InputNo) : (s.grant u p).timekeeping = s.timekeeping :=
  (s.handed_grant u p).frame.timekeeping

@[simp] theorem State.displace_timekeeping (u : InputNo) (h : Port) :
    (s.displace u h p).timekeeping = s.timekeeping :=
  (State.grant_timekeeping _ p u).trans (s.release_timekeeping h u)

@[simp] theorem State.passOn_timekeeping (u : InputNo) : (s.passOn u p).timekeeping = s.timekeeping := by
  unfold State.passOn
  dsimp only
  split
  · exact s.release_timekeeping p u
  · exact (State.grant_timekeeping _ _ u).trans (s.release_timekeeping p u)

@[simp] theorem State.setGainTarget_timekeeping (i : InputNo) (n : Nat) :
    (s.setGainTarget i n).timekeeping = s.timekeeping := by
  unfold State.setGainTarget; split <;> rfl

theorem State.reachInput_timekeeping (i : InputNo) : (s.reachInput i).timekeeping = s.timekeeping := by
  unfold State.reachInput; split <;> rfl

@[simp] theorem State.changeGroup_timekeeping (g : GroupNo) (x : PhantomGroup) :
    (s.changeGroup g x).timekeeping = s.timekeeping := by
  have reached : (if x.state.live then (groupInputs g).foldl State.reachInput (s.setGroup g x)
      else s.setGroup g x).timekeeping = s.timekeeping := by
    split
    · exact foldl_timekeeping State.reachInput_timekeeping _ _
    · rfl
  unfold State.changeGroup
  dsimp only
  split
  · exact reached
  · exact reached

@[simp] theorem State.linkPair_timekeeping (k : PairNo) : (s.linkPair k p).timekeeping = s.timekeeping := by
  have copied (t : State) : (t.copyRecords k p).timekeeping = t.timekeeping :=
    foldl_timekeeping (fun _ _ => rfl) allPorts t
  exact (copied _).trans (State.setGainTarget_timekeeping _ (oddOf k) _)

/-! ### The decisions of requests but SETTING -/

theorem decideClaim_timekeeping (c : Byte) : (decideClaim p c s).1.timekeeping = s.timekeeping := by
  simp only [decideClaim]
  repeat' split
  all_goals simp

theorem decideYield_timekeeping (c : Byte) : (decideYield p c s).1.timekeeping = s.timekeeping := by
  simp only [decideYield]
  repeat' split
  all_goals simp

theorem decideGain_timekeeping (c : Byte) (a : Half) : (decideGain p c a s).1.timekeeping = s.timekeeping := by
  have gains (n : Nat) (l : List InputNo) := foldl_timekeeping (fun t i => t.setGainTarget_timekeeping i n) l s
  simp only [decideGain]
  repeat' split
  all_goals simp [gains]

theorem decidePad_timekeeping (c : Byte) (a : Half) : (decidePad p c a s).1.timekeeping = s.timekeeping := by
  have pads (on : Bool) (l : List InputNo) :=
    foldl_timekeeping (f := fun t i => t.requestPad i on) (fun _ _ => rfl) l s
  simp only [decidePad]
  repeat' split
  all_goals simp [pads]

theorem decideMode_timekeeping (c : Byte) (a : Half) : (decideMode p c a s).1.timekeeping = s.timekeeping := by
  have modes (m : Mode) (l : List InputNo) :=
    foldl_timekeeping (f := fun t i => t.requestMode i m) (fun _ _ => rfl) l s
  simp only [decideMode]
  repeat' split
  all_goals simp [modes]

theorem decidePhantom_timekeeping (c : Byte) (a : Half) : (decidePhantom p c a s).1.timekeeping = s.timekeeping := by
  simp only [decidePhantom]
  repeat' split
  all_goals simp

theorem decideTrim_timekeeping (c : Byte) (a : Half) : (decideTrim p c a s).1.timekeeping = s.timekeeping := by
  have trims (v : Int) (l : List InputNo) :=
    foldl_timekeeping (f := fun t i => t.writeTrim p v i) (fun _ _ => rfl) l s
  simp only [decideTrim]
  repeat' split
  all_goals simp [trims]

theorem decideMute_timekeeping (c : Byte) (a : Half) : (decideMute p c a s).1.timekeeping = s.timekeeping := by
  have mutes (on : Bool) (l : List InputNo) :=
    foldl_timekeeping (f := fun t i => t.writeMute p on i) (fun _ _ => rfl) l s
  simp only [decideMute]
  repeat' split
  all_goals simp [mutes]

theorem decideLink_timekeeping (c : Byte) (a : Half) : (decideLink p c a s).1.timekeeping = s.timekeeping := by
  simp only [decideLink]
  repeat' split
  all_goals simp

theorem decideSlot_timekeeping (c : Byte) (a b : Half) : (decideSlot p c a b s).1.timekeeping = s.timekeeping := by
  simp only [decideSlot]
  repeat' split
  all_goals simp

theorem decideCommit_timekeeping : (decideCommit p s).1.timekeeping = s.timekeeping := by
  simp only [decideCommit]
  repeat' split
  all_goals simp

theorem decideRound_timekeeping (a : Half) : (decideRound p a s).1.timekeeping = s.timekeeping := by
  unfold decideRound; split <;> rfl

theorem decideWatch_timekeeping (c : Byte) (a b : Half) : (decideWatch p c a b s).1.timekeeping = s.timekeeping := by
  unfold decideWatch; split <;> rfl

theorem decideWatchClear_timekeeping (c : Byte) : (decideWatchClear p c s).1.timekeeping = s.timekeeping := by
  unfold decideWatchClear
  split
  · rfl
  · split <;> rfl

theorem decideFactory_timekeeping : (decideFactory p s).1.timekeeping = s.timekeeping := by
  unfold decideFactory; split <;> rfl

/-- A request other than SETTING leaves what the laws of the clock tracker read as it is. -/
theorem decideRequest_timekeeping {r : Request} (other : r.kind.toNat ≠ 15) :
    (decideRequest p r s).1.timekeeping = s.timekeeping := by
  unfold decideRequest
  split
  · exact decideClaim_timekeeping s p _
  · exact decideYield_timekeeping s p _
  · exact decideGain_timekeeping s p _ _
  · exact decidePad_timekeeping s p _ _
  · exact decideMode_timekeeping s p _ _
  · exact decidePhantom_timekeeping s p _ _
  · exact decideTrim_timekeeping s p _ _
  · exact decideMute_timekeeping s p _ _
  · exact decideLink_timekeeping s p _ _
  · exact decideSlot_timekeeping s p _ _ _
  · exact decideCommit_timekeeping s p
  · exact decideRound_timekeeping s p _
  · exact decideWatch_timekeeping s p _ _ _
  · exact decideWatchClear_timekeeping s p _
  · next setting => exact (other setting).elim
  · exact decideFactory_timekeeping s p
  · rfl

/-! ### The cycle boundaries, port loss and the deferred write -/

theorem timedLike_startBlocks : TimedLike s s.startBlocks := by
  refine .of_links ?_ (reportsLike_startBlocks s).links
  have noted (e : StoredFrontEnd) : (s.noteChange e).timekeeping = s.timekeeping := rfl
  have store : State.timekeeping { s with store := s.startFrontEnd.store } = s.timekeeping := by
    rw [State.startFrontEnd_store, ← Store.noteChange_eq_noted]
    split
    · exact noted _
    · rfl
  rw [State.startBlocks_eq_enterCycle]
  exact store

theorem timedLike_leave : TimedLike s s.leave :=
  ⟨rfl, fun p => by rw [State.leave_port]⟩

theorem timedLike_sendDownlinks (count : Byte) (leaving : Vector (List Response) 4) :
    TimedLike s (s.sendDownlinks count leaving) :=
  ⟨rfl, fun p => by rw [State.sendDownlinks_port]⟩

theorem timedLike_clearReported (i : InputNo) : TimedLike s (s.clearReported i) := .of_links rfl rfl

theorem timedLike_endCycle (samples : CycleSamples) : TimedLike s (s.endCycle samples) := by
  refine .of_links ?_ (s.endCycle_links samples)
  simp only [State.timekeeping, State.endCycle, State.evaluateWatches, State.setStickies, State.takeSamples,
    State.handRecords, State.endFrontEnd]

theorem timedLike_setLane (l : LaneId) (x : Lane) : TimedLike s (s.setLane p l x) :=
  ⟨rfl, s.setLane_attach p l x⟩

end

theorem State.lostBeforeClock_timekeeping {s : State} (holdings : holdingsOk s) (p : Port) :
    (s.lostBeforeClock p).timekeeping = s.timekeeping := by
  have loses := State.loses_loseHoldings (s := s.setPort p (s.port p).lose) holdings p
  have rest (t : State) : ((t.loseMaps p).loseWatches p).timekeeping = t.timekeeping := rfl
  rw [State.lostBeforeClock, rest, loses.frame.timekeeping]
  rfl

theorem State.lostBeforeClock_port {s : State} (holdings : holdingsOk s) (p q : Port) :
    (s.lostBeforeClock p).port q = if q = p then (s.port p).lose else s.port q := by
  rw [State.port, State.lostBeforeClock_links holdings]
  exact State.port_setPort s p q _

end Sys2Proof.Machine
end

section
/-! SUPPORT. The laws of a clock by itself (7.5): the range of its intervals and of L, and what each clock state keeps;
and that each entry into a clock state and each measured header keep them. -/

namespace Sys2Proof.Machine

open Sys2Proof.Safety Sys2Proof.Claims

/-! ### Intervals and L (R120, R121, R124) -/

/-- The nominal cycle of the run in ticks. -/
abbrev Clock.nominal (c : Clock) : Int := (nominalCycle c.rate : Nat)

/-- The interval lay within some window (R121). -/
abbrev Clock.near (c : Clock) (d : Int) : Prop := c.nominal - 16 ≤ d ∧ d ≤ c.nominal + 16

/-- L lies within 16 ticks of N (R120). -/
abbrev Clock.nearLength (c : Clock) (x : Rat) : Prop := (c.nominal : Rat) - 16 ≤ x ∧ x ≤ (c.nominal : Rat) + 16

/-- The mean of intervals that lay within a window lies within 16 ticks of N. -/
theorem Clock.nearLength_mean {c : Clock} {l : List Int} (nonempty : l ≠ []) (h : ∀ d ∈ l, c.near d) :
    c.nearLength (mean l) := by
  have count : (0 : Rat) < (l.length : Rat) := by exact_mod_cast List.length_pos_iff.mpr nonempty
  have low := l.card_nsmul_le_sum (c.nominal - 16) fun d hd => (h d hd).1
  have high := l.sum_le_card_nsmul (c.nominal + 16) fun d hd => (h d hd).2
  rw [nsmul_eq_mul] at low high
  have low : (l.length : Rat) * ((c.nominal : Rat) - 16) ≤ (l.sum : Rat) := by exact_mod_cast low
  have high : (l.sum : Rat) ≤ (l.length : Rat) * ((c.nominal : Rat) + 16) := by exact_mod_cast high
  exact ⟨by rw [mean, le_div_iff₀ count]; linarith, by rw [mean, div_le_iff₀ count]; linarith⟩

/-- The history holds at most 8 intervals, these and those of the relock run lay within a window, L lies within 16 ticks
of N, and no port is refused twice. -/
structure Clock.InRange (c : Clock) : Prop where
  few : c.history.length ≤ 8
  history : ∀ d ∈ c.history, c.near d
  relock : ∀ d ∈ c.relockRun, c.near d
  length : c.nearLength c.length
  refused : c.refused.Nodup

/-- What each clock state keeps: each timer runs in its own state, and the counts lie below their limits. -/
def Clock.InState (c : Clock) : Prop :=
  match c.state with
  | .free => c.length = c.nominal ∧ c.history = [] ∧ c.acquireTimer = none ∧ c.holdoverTimer = none
  | .acquire r => r ∉ c.refused ∧ c.inWindow ≤ 7 ∧ c.acquireTimer.isSome = true ∧ c.holdoverTimer = none
  | .locked _ => c.misses ≤ 2 ∧ c.acquireTimer = none ∧ c.holdoverTimer = none
  | .holdover _ => c.relockRun.length ≤ 7 ∧ c.acquireTimer = none ∧ c.holdoverTimer.isSome = true

/-- A lawful clock of a running part, but for what it asks of the ports. -/
structure Clock.Lawful (c : Clock) : Prop extends c.InRange where
  inState : c.InState

namespace Clock.Lawful

variable {c : Clock}

/-! ### Entries into the states -/

theorem acquiring (h : c.InRange) {r : Port} (accepted : r ∉ c.refused) : (acquiring c r).Lawful where
  few := by simp
  history := by simp
  relock := h.relock
  length := h.length
  refused := h.refused
  inState := ⟨accepted, by simp, rfl, rfl⟩

theorem freed_length (c : Clock) : (Claims.freed c).length = c.nominal := by
  show ((if c.rate = .khz48 then 32768 else 16384 : Nat) : Rat) = _
  rw [← nominalCycle_eq]; exact (Int.cast_natCast _).symm

theorem freed (h : c.InRange) : (Claims.freed c).Lawful where
  few := by simp
  history := by simp
  relock := h.relock
  length := by
    rw [freed_length]
    exact ⟨by simp, by simp⟩
  refused := h.refused
  inState := ⟨freed_length c, rfl, rfl, rfl⟩

theorem acquiringOr (h : c.InRange) {o : Option Port} (accepted : ∀ r, o = some r → r ∉ c.refused) :
    (acquiringOr c o).Lawful := by
  cases o with
  | none => exact freed h
  | some r => exact acquiring h (accepted r rfl)

theorem heldOver (h : c.InRange) (stopped : c.acquireTimer = none) (r : Port) : (heldOver c r).Lawful where
  few := h.few
  history := h.history
  relock := by simp
  length := h.length
  refused := h.refused
  inState := ⟨by simp, stopped, rfl⟩

/-! ### The refused set and the predecessor -/

/-- The refused set shrinks (R126, R136). -/
theorem withRefused (h : c.Lawful) {l : List Port} (distinct : l.Nodup) (shrinks : ∀ r ∈ l, r ∈ c.refused) :
    Clock.Lawful { c with refused := l } where
  few := h.few
  history := h.history
  relock := h.relock
  length := h.length
  refused := distinct
  inState := by
    have inState := h.inState
    unfold InState at inState ⊢
    dsimp only
    split at inState
    · exact inState
    · next r _ =>
      obtain ⟨accepted, rest⟩ := inState
      exact ⟨mt (shrinks r) accepted, rest⟩
    · exact inState
    · exact inState

theorem withPredecessor (h : c.Lawful) (x : Option Predecessor) : Clock.Lawful { c with predecessor := x } where
  few := h.few
  history := h.history
  relock := h.relock
  length := h.length
  refused := h.refused
  inState := h.inState

/-! ### Leaving FREE and losing the reference -/

theorem left (h : c.Lawful) {first : Option Port} (accepted : ∀ r, first = some r → r ∉ c.refused) :
    (c.left first).Lawful := by
  unfold Clock.left
  split
  · exact acquiring h.toInRange (accepted _ rfl)
  · exact h

theorem lost (h : c.Lawful) {first : Option Port} (accepted : ∀ r, first = some r → r ∉ c.refused) :
    (c.lost first).Lawful := by
  have inState := h.inState
  unfold Clock.lost
  unfold InState at inState
  split
  · exact h
  · exact acquiringOr h.toInRange accepted
  · next r state =>
    rw [state] at inState
    obtain ⟨-, stopped, -⟩ := inState
    exact heldOver h.toInRange stopped r
  · next r state =>
    rw [state] at inState
    obtain ⟨-, timers⟩ := inState
    refine ⟨⟨h.few, h.history, by simp, h.length, h.refused⟩, ?_⟩
    unfold InState
    rw [state]
    exact ⟨by simp, timers⟩

/-! ### Intervals (R124, R129, R132, R134) -/

theorem near_last8 {l : List Int} (h : ∀ d ∈ l, c.near d) : ∀ d ∈ last8 l, c.near d := fun d hd =>
  h d (List.mem_of_mem_drop hd)

/-- The history with one more interval. -/
theorem inRange_steered (h : c.InRange) {d : Int} (near : c.near d) : (steered c d).InRange := by
  have all : ∀ e ∈ c.history ++ [d], c.near e := by
    intro e he
    rcases List.mem_append.mp he with he | he
    · exact h.history e he
    · rw [List.mem_singleton.mp he]; exact near
  have nonempty : last8 (c.history ++ [d]) ≠ [] := by
    intro empty
    have := List.drop_eq_nil_iff.mp empty
    simp only [List.length_append, List.length_singleton] at this
    omega
  exact ⟨by simp only [last8, List.length_drop]; omega, near_last8 all, h.relock,
    Clock.nearLength_mean nonempty (near_last8 all), h.refused⟩

theorem afterGood (h : c.Lawful) {d : Int} (near : c.near d) : (afterGood c d).Lawful := by
  have steered := inRange_steered h.toInRange near
  have inState := h.inState
  unfold InState at inState
  cases state : c.state with
  | free => simpa only [Claims.afterGood, state] using h
  | acquire r =>
    rw [state] at inState
    obtain ⟨accepted, count, acquire, holdover⟩ := inState
    simp only [Claims.afterGood, state]
    split
    · next few =>
      refine ⟨⟨steered.few, steered.history, steered.relock, steered.length, steered.refused⟩, ?_⟩
      simp only [InState]
      exact ⟨accepted, by omega, acquire, holdover⟩
    · exact ⟨⟨steered.few, steered.history, steered.relock, steered.length, steered.refused⟩, by simp, rfl, holdover⟩
  | locked r =>
    rw [state] at inState
    obtain ⟨-, timers⟩ := inState
    simp only [Claims.afterGood, state]
    refine ⟨⟨steered.few, steered.history, steered.relock, steered.length, steered.refused⟩, ?_⟩
    simp only [InState]
    exact ⟨by simp, timers⟩
  | holdover r =>
    rw [state] at inState
    obtain ⟨count, acquire, holdover⟩ := inState
    have run : ∀ e ∈ c.relockRun ++ [d], c.near e := by
      intro e he
      rcases List.mem_append.mp he with he | he
      · exact h.relock e he
      · rw [List.mem_singleton.mp he]; exact near
    simp only [Claims.afterGood, state]
    split
    · next few =>
      refine ⟨⟨h.few, h.history, run, h.length, h.refused⟩, ?_⟩
      simp only [InState, List.length_append, List.length_singleton]
      exact ⟨by omega, acquire, holdover⟩
    · exact ⟨⟨by simp only [List.length_append, List.length_singleton]; omega, run, by simp,
        Clock.nearLength_mean (by simp) run, h.refused⟩, by simp, acquire, rfl⟩

theorem afterBad (h : c.Lawful) : (afterBad c).Lawful := by
  have inState := h.inState
  unfold InState at inState
  cases state : c.state with
  | free => simpa only [Claims.afterBad, state] using h
  | acquire r =>
    rw [state] at inState
    obtain ⟨accepted, -, timers⟩ := inState
    simp only [Claims.afterBad, state]
    refine ⟨⟨h.few, h.history, h.relock, h.length, h.refused⟩, ?_⟩
    simp only [InState]
    exact ⟨accepted, by simp, timers⟩
  | locked r =>
    rw [state] at inState
    obtain ⟨-, acquire, holdover⟩ := inState
    simp only [Claims.afterBad, state]
    split
    · next few =>
      refine ⟨⟨h.few, h.history, h.relock, h.length, h.refused⟩, ?_⟩
      simp only [InState]
      exact ⟨by omega, acquire, holdover⟩
    · exact heldOver (c := { c with misses := c.misses + 1 })
        ⟨h.few, h.history, h.relock, h.length, h.refused⟩ acquire r
  | holdover r =>
    rw [state] at inState
    obtain ⟨-, timers⟩ := inState
    simp only [Claims.afterBad, state]
    refine ⟨⟨h.few, h.history, by simp, h.length, h.refused⟩, ?_⟩
    simp only [InState]
    exact ⟨by simp, timers⟩

theorem measured (h : c.Lawful) {window : Nat} (wide : window ≤ 16) (count : Byte) (tick : Nat) :
    (measured c window count tick).Lawful := by
  have noted := h.withPredecessor (some { count := count, tick := tick })
  unfold Claims.measured
  dsimp only
  split
  · exact noted
  split
  · split
    · next inside =>
      refine noted.afterGood ?_
      rw [← nominalCycle_eq_nominalTicks] at inside
      simp only [Clock.near, Clock.nominal]
      omega
    · exact noted.afterBad
  · exact noted

end Clock.Lawful

end Sys2Proof.Machine
end

section
/-! SUPPORT. The clock tracker among the ports (R125, R127, R131, R133): what a clock state asks of the ports, and that
the clock tracker's operations keep it as ports come and go, as headers are measured and as its timers expire. -/

namespace Sys2Proof.Machine

open Sys2Proof.Safety Sys2Proof.Claims

/-! ### The laws of the clock tracker, apart -/

/-- The settings in force, stored and being written are settings (10.2). -/
structure Store.SettingsLawful (st : Store) : Prop where
  current : settingsOk st.settings
  stored : settingsOk st.settingsCopy.record
  written : ∀ w, st.settingsWrite = some w → settingsOk w.record

/-- No candidate exists in FREE, and the reference is available in ACQUIRE and LOCKED (R127, R131, R133). -/
def State.Referenced (s : State) : Prop :=
  match s.clock.state with
  | .free => ∀ p, ¬ isCandidate s p
  | .acquire r | .locked r => referenceAvailable s r
  | .holdover _ => True

/-- The laws of a running part's clock tracker, but for what it asks of the ports. -/
structure State.Steady (s : State) : Prop where
  clock : s.clock.Lawful
  settings : s.store.SettingsLawful

/-- The laws of a running part's clock tracker. -/
structure State.Tracks (s : State) : Prop extends s.Steady where
  referenced : s.Referenced

theorem clockOk_iff (s : State) :
    clockOk s ↔ (s.phase = .running → s.clock.InState ∧ s.Referenced) ∧ s.clock.InRange ∧ s.store.SettingsLawful := by
  have state : (match s.clock.state with
      | .free => (∀ p, ¬ isCandidate s p) ∧ s.clock.length = nominal s ∧ s.clock.history = [] ∧
          s.clock.acquireTimer = none ∧ s.clock.holdoverTimer = none
      | .acquire r => referenceAvailable s r ∧ r ∉ s.clock.refused ∧ s.clock.inWindow ≤ 7 ∧
          s.clock.acquireTimer.isSome = true ∧ s.clock.holdoverTimer = none
      | .locked r => referenceAvailable s r ∧ s.clock.misses ≤ 2 ∧
          s.clock.acquireTimer = none ∧ s.clock.holdoverTimer = none
      | .holdover _ => s.clock.relockRun.length ≤ 7 ∧ s.clock.acquireTimer = none ∧
          s.clock.holdoverTimer.isSome = true) ↔ s.clock.InState ∧ s.Referenced := by
    unfold Clock.InState State.Referenced
    cases s.clock.state with
    | free | acquire r | locked r => exact and_comm
    | holdover r => exact (iff_of_eq (and_true _)).symm
  constructor
  · rintro ⟨running, few, history, relock, low, high, refused, current, stored, written⟩
    exact ⟨fun h => state.mp (running h), ⟨few, history, relock, ⟨low, high⟩, refused⟩, ⟨current, stored, written⟩⟩
  · rintro ⟨running, ⟨few, history, relock, ⟨low, high⟩, refused⟩, ⟨current, stored, written⟩⟩
    exact ⟨fun h => state.mpr (running h), few, history, relock, low, high, refused, current, stored, written⟩

theorem State.Tracks.clockOk {s : State} (h : s.Tracks) : clockOk s :=
  (clockOk_iff s).mpr ⟨fun _ => ⟨h.clock.inState, h.referenced⟩, h.clock.toInRange, h.settings⟩

theorem State.Tracks.of_clockOk {s : State} (h : Safety.clockOk s) (running : s.phase = .running) : s.Tracks := by
  obtain ⟨laws, range, settings⟩ := (clockOk_iff s).mp h
  obtain ⟨inState, referenced⟩ := laws running
  exact ⟨⟨⟨range, inState⟩, settings⟩, referenced⟩

/-- While the part does not run, only the ranges and the settings count. -/
theorem clockOk_of_stopped {s : State} (stopped : s.phase ≠ .running) (range : s.clock.InRange)
    (settings : s.store.SettingsLawful) : clockOk s :=
  (clockOk_iff s).mpr ⟨fun h => (stopped h).elim, range, settings⟩

/-! ### States that keep time alike -/

section

variable {s t : State}

theorem Store.SettingsLawful.of_eq {st st' : Store} (h : st.SettingsLawful) (settings : st'.settings = st.settings)
    (copy : st'.settingsCopy = st.settingsCopy) (write : st'.settingsWrite = st.settingsWrite) : st'.SettingsLawful :=
  ⟨by rw [settings]; exact h.current, by rw [copy]; exact h.stored, by rw [write]; exact h.written⟩

theorem TimedLike.settingsLawful (h : TimedLike s t) (l : s.store.SettingsLawful) : t.store.SettingsLawful :=
  l.of_eq h.settings h.settingsCopy h.settingsWrite

/-- The same clock state asks no more of the ports where an available reference stays available, and where no candidate
comes up in FREE. -/
theorem State.Referenced.transport (h : s.Referenced) (state : t.clock.state = s.clock.state)
    (available : ∀ r, s.clock.state.reference = some r → referenceAvailable s r → referenceAvailable t r)
    (free : s.clock.state = .free → ∀ p, isCandidate t p → isCandidate s p) : t.Referenced := by
  unfold State.Referenced at h ⊢
  rw [state]
  cases e : s.clock.state with
  | free => rw [e] at h; exact fun p candidate => h p (free e p candidate)
  | acquire r | locked r => rw [e] at h; exact available r (by rw [e]; rfl) h
  | holdover r => trivial

theorem TimedLike.referenced (h : TimedLike s t) (l : s.Referenced) : t.Referenced := by
  refine l.transport (by rw [h.clock]) (fun r _ here => ?_) fun _ p candidate => ?_
  · simpa only [referenceAvailable, h.attach, h.settings] using here
  · simpa only [isCandidate, h.attach, h.settings, h.clock] using candidate

theorem TimedLike.tracks (h : TimedLike s t) (l : s.Tracks) : t.Tracks :=
  ⟨⟨by rw [h.clock]; exact l.clock, h.settingsLawful l.settings⟩, h.referenced l.referenced⟩

theorem TimedLike.clockOk (h : TimedLike s t) (ok : Safety.clockOk s) : Safety.clockOk t := by
  obtain ⟨laws, range, settings⟩ := (clockOk_iff s).mp ok
  refine (clockOk_iff t).mpr ⟨fun running => ?_, by rw [h.clock]; exact range, h.settingsLawful settings⟩
  obtain ⟨inState, referenced⟩ := laws (h.phase.symm.trans running)
  exact ⟨by rw [h.clock]; exact inState, h.referenced referenced⟩

end

/-! ### Choices among the candidates (R125, R128, R130, R135) -/

section

variable {s : State}

theorem of_firstOf_some {refused l : List Port} {r : Port} (h : firstOf s refused l = some r) :
    r ∈ l ∧ (s.port r).attach = .attached ∧ r ∉ refused := by
  have mem := List.mem_of_head? h
  rw [List.mem_filter, decide_eq_true_eq] at mem
  exact mem

theorem of_firstOf_none {refused l : List Port} (h : firstOf s refused l = none) (p : Port) :
    ¬ (p ∈ l ∧ (s.port p).attach = .attached ∧ p ∉ refused) := by
  rintro ⟨mem, candidate⟩
  have empty := List.filter_eq_nil_iff.mp (List.head?_eq_none_iff.mp h) p mem
  exact empty (decide_eq_true candidate)

/-- ACQUIRE on a candidate, or FREE where there is none. -/
theorem tracks_acquireOrFree (range : s.clock.InRange) (settings : s.store.SettingsLawful) {o : Option Port}
    (chosen : ∀ r, o = some r → isCandidate s r) (nobody : o = none → ∀ p, ¬ isCandidate s p) :
    (s.acquireOrFree o).Tracks := by
  rw [State.acquireOrFree_eq]
  have accepted (r : Port) (h : o = some r) : r ∉ s.clock.refused := by
    obtain ⟨-, -, accepted⟩ := chosen r h
    exact accepted
  refine ⟨⟨Clock.Lawful.acquiringOr range accepted, settings⟩, ?_⟩
  cases o with
  | none => exact nobody rfl
  | some r =>
    obtain ⟨listed, attached, -⟩ := chosen r rfl
    exact ⟨attached, listed⟩

theorem tracks_firstCandidate (range : s.clock.InRange) (settings : s.store.SettingsLawful) :
    (s.acquireOrFree s.firstCandidate).Tracks := by
  rw [State.firstCandidate_eq]
  exact tracks_acquireOrFree range settings (fun _ => of_firstOf_some) fun h => of_firstOf_none h

/-- FREE is left for the first candidate (R127). -/
theorem tracks_leaveFree (steady : s.Steady) (referenced : s.clock.state ≠ .free → s.Referenced) :
    s.leaveFree.Tracks := by
  unfold State.leaveFree
  split
  · next r state first =>
    rw [show s.enterAcquire r = s.acquireOrFree s.firstCandidate by rw [first]; rfl]
    exact tracks_firstCandidate steady.clock.toInRange steady.settings
  · next stays =>
    refine ⟨steady, ?_⟩
    by_cases free : s.clock.state = .free
    · cases first : s.firstCandidate with
      | none =>
        rw [State.firstCandidate_eq] at first
        unfold State.Referenced
        rw [free]
        exact of_firstOf_none first
      | some r => exact (stays r free first).elim
    · exact referenced free

/-- A reference that is lost leaves ACQUIRE on another candidate, FREE or HOLDOVER (R131, R133, R134). -/
theorem tracks_loseReference (steady : s.Steady) (reference : s.clock.state ≠ .free) : s.loseReference.Tracks := by
  have inState := steady.clock.inState
  unfold State.loseReference
  unfold Clock.InState at inState
  split
  · next free => exact (reference free).elim
  · exact tracks_firstCandidate steady.clock.toInRange steady.settings
  · next r state =>
    rw [state] at inState
    obtain ⟨-, stopped, -⟩ := inState
    exact ⟨⟨Clock.Lawful.heldOver steady.clock.toInRange stopped r, steady.settings⟩, trivial⟩
  · next r state =>
    have lost := steady.clock.lost (first := none) (by simp)
    simp only [Clock.lost, state] at lost
    refine ⟨⟨by simpa only [state] using lost, steady.settings⟩, ?_⟩
    unfold State.Referenced
    simp only [state]

end

/-! ### Ports that come and go (R126, R127, R131, R133, R134) -/

section

variable {s t : State} {p : Port}

theorem State.Steady.of_timekeeping (h : s.Steady) (same : t.timekeeping = s.timekeeping) : t.Steady :=
  ⟨by rw [show t.clock = s.clock from congrArg (·.2.1) same]; exact h.clock,
    h.settings.of_eq (congrArg (·.2.2.1) same) (congrArg (·.2.2.2.1) same) (congrArg (·.2.2.2.2) same)⟩

/-- The port has become ATTACHED. -/
theorem tracks_clockAttached (h : s.Tracks) (same : t.timekeeping = s.timekeeping)
    (others : ∀ q, q ≠ p → (t.port q).attach = (s.port q).attach) (here : (t.port p).attach = .attached) :
    (t.clockAttached p).Tracks := by
  have steady := h.toSteady.of_timekeeping same
  have clock : t.clock = s.clock := congrArg (·.2.1) same
  have settings : t.store.settings = s.store.settings := congrArg (·.2.2.1) same
  refine tracks_leaveFree (s := { t with clock := { t.clock with refused := t.clock.refused.erase p } })
    ⟨steady.clock.withRefused (steady.clock.refused.erase p) fun r => List.mem_of_mem_erase, steady.settings⟩
    fun leaves => ?_
  have state : t.clock.state = s.clock.state := congrArg Clock.state clock
  refine h.referenced.transport state (fun r _ ⟨attached, listed⟩ => ⟨?_, ?_⟩) fun free => ?_
  · show (t.port r).attach = .attached
    by_cases q : r = p
    · rw [q]; exact here
    · rw [others r q]; exact attached
  · show r ∈ t.store.settings.clockList
    rw [settings]; exact listed
  · exact (leaves (state.trans free)).elim

/-- The port is no longer ATTACHED. -/
theorem tracks_clockDetached (h : s.Tracks) (same : t.timekeeping = s.timekeeping)
    (others : ∀ q, q ≠ p → (t.port q).attach = (s.port q).attach) (gone : (t.port p).attach ≠ .attached) :
    (t.clockDetached p).Tracks := by
  have steady := h.toSteady.of_timekeeping same
  have clock : t.clock = s.clock := congrArg (·.2.1) same
  have settings : t.store.settings = s.store.settings := congrArg (·.2.2.1) same
  unfold State.clockDetached
  split
  · next reference => exact tracks_loseReference steady fun free => by simp [free, ClockState.reference] at reference
  · next other =>
    refine ⟨steady, h.referenced.transport (congrArg Clock.state clock) (fun r reference => ?_) fun _ q candidate => ?_⟩
    · have ne : r ≠ p := by rintro rfl; exact other (by rw [clock]; exact reference)
      simpa only [referenceAvailable, others r ne, settings] using id
    · obtain ⟨listed, attached, accepted⟩ := candidate
      have ne : q ≠ p := by rintro rfl; exact gone attached
      exact ⟨settings ▸ listed, others q ne ▸ attached, clock ▸ accepted⟩

theorem State.Tracks.withPredecessor (h : s.Tracks) (x : Option Predecessor) :
    State.Tracks { s with clock := { s.clock with predecessor := x } } :=
  ⟨⟨h.clock.withPredecessor x, h.settings⟩, h.referenced⟩

theorem tracks_forgetIfLaneChanged (h : s.Tracks) (before : State) : (s.forgetIfLaneChanged before).Tracks := by
  unfold State.forgetIfLaneChanged
  split
  · exact h
  · exact h.withPredecessor none

theorem tracks_attachPort (h : s.Tracks) (p : Port) : (s.attachPort p).Tracks := by
  unfold State.attachPort
  split
  · exact h
  · exact tracks_clockAttached h rfl (fun q ne => by rw [State.port_setPort, if_neg ne])
      (by rw [State.port_setPort, if_pos rfl])

theorem tracks_detachPort (h : s.Tracks) (p : Port) : (s.detachPort p).Tracks := by
  unfold State.detachPort
  split
  · exact tracks_clockDetached h rfl (fun q ne => by rw [State.port_setPort, if_neg ne])
      (by rw [State.port_setPort, if_pos rfl]; exact Attach.noConfusion)
  · exact h

theorem tracks_dropLane (h : s.Tracks) (p : Port) (l : LaneId) : (s.dropLane p l).Tracks := by
  have fallen := (timedLike_setLane s p l (s.lane p l).enterDown).tracks h
  unfold State.dropLane
  dsimp only
  refine tracks_forgetIfLaneChanged ?_ s
  split
  · exact tracks_detachPort fallen p
  · exact fallen

theorem tracks_missLane (h : s.Tracks) (p : Port) (l : LaneId) : (s.missLane p l).Tracks := by
  unfold State.missLane
  dsimp only
  split
  · exact h
  split
  · exact h
  · exact tracks_dropLane h p l
  · split
    · exact tracks_dropLane h p l
    · exact (timedLike_setLane s p l _).tracks h

/-! ### Headers (R123, R129, R132, R134) -/

/-- The window in force is 16 ticks at most (R121). -/
theorem Store.SettingsLawful.window_le {st : Store} (h : st.SettingsLawful) : st.settings.window ≤ 16 := by
  obtain ⟨window, -⟩ := h.current
  simp only [List.mem_cons, List.not_mem_nil, or_false] at window
  omega

/-- A measured header moves the clock tracker to no other reference. -/
theorem measured_reference (c : Clock) (window : Nat) (count : Byte) (tick : Nat) :
    (measured c window count tick).state.reference = c.state.reference := by
  have good (c : Clock) (d : Int) : (afterGood c d).state.reference = c.state.reference := by
    cases state : c.state with
    | free | locked r => simp only [afterGood, state]
    | acquire r | holdover r => simp only [afterGood, state]; split <;> rfl
  have bad (c : Clock) : (afterBad c).state.reference = c.state.reference := by
    cases state : c.state with
    | free | acquire r | holdover r => simp only [afterBad, state]
    | locked r => simp only [afterBad, state]; split <;> rfl
  unfold measured
  dsimp only
  split
  · rfl
  split
  · split
    · exact good _ _
    · exact bad _
  · rfl

/-- While its reference is available, a clock state asks nothing more of the ports. -/
theorem State.Referenced.of_available {r : Port} (reference : s.clock.state.reference = some r)
    (available : referenceAvailable s r) : s.Referenced := by
  unfold State.Referenced
  cases state : s.clock.state <;> simp only [state, ClockState.reference, Option.some.injEq, reduceCtorEq] at reference
  · rw [reference]; exact available
  · rw [reference]; exact available
  · trivial

theorem tracks_measure (h : s.Tracks) (count : Byte) (tick : Nat) : (s.measure count tick).Tracks := by
  rw [State.measure_eq]
  split
  · next measures =>
    obtain ⟨r, reference, available⟩ := (Option.any_eq_true _ _).mp measures
    exact ⟨⟨h.clock.measured h.settings.window_le count tick, h.settings⟩,
      .of_available ((measured_reference s.clock _ count tick).trans reference) ((s.available_iff r).mp available)⟩
  · exact h

theorem tracks_validHeader (h : s.Tracks) (p : Port) (l : LaneId) (count : Byte) (tick : Nat) :
    (s.validHeader p l count tick).Tracks := by
  have heard := (timedLike_setLane s p l ((s.lane p l).validHeader count (missTicks s.clock.rate))).tracks h
  unfold State.validHeader
  dsimp only
  split
  · split
    · exact tracks_measure heard count tick
    · exact heard
  · split
    · exact tracks_forgetIfLaneChanged (tracks_attachPort heard p) s
    · exact heard

theorem tracks_arrive (h : s.Tracks) (p : Port) (l : LaneId) (count requests hi lo : Byte) (tick : Nat) :
    (s.arrive p l count requests hi lo tick).Tracks := by
  unfold State.arrive
  dsimp only
  split
  · split
    · exact tracks_validHeader ((timedLike_setLane s p l _).tracks h) p l count tick
    · exact (timedLike_setLane s p l _).tracks h
  · exact h

/-! ### The timers (R130, R135) -/

theorem tracks_acquireExpired (h : s.Tracks) : s.acquireExpired.Tracks := by
  have range := h.clock.toInRange
  unfold State.acquireExpired
  split
  · next r state =>
    refine tracks_firstCandidate (s := { s with clock := _ }) ?_ h.settings
    refine ⟨range.few, range.history, range.relock, range.length, ?_⟩
    dsimp only
    split
    · exact range.refused
    · next fresh => rw [← List.concat_eq_append]; exact range.refused.concat fresh
  all_goals exact h

theorem tracks_holdoverExpired (h : s.Tracks) : s.holdoverExpired.Tracks := by
  unfold State.holdoverExpired
  split
  · next r state =>
    rw [State.candidateAfter_eq]
    refine tracks_acquireOrFree h.clock.toInRange h.settings (fun q chosen => ?_) fun nobody => ?_
    · rcases Option.or_eq_some_iff.mp chosen with other | ⟨-, first⟩
      · obtain ⟨listed, candidate⟩ := of_firstOf_some other
        exact ⟨(List.mem_filter.mp listed).1, candidate⟩
      · exact of_firstOf_some first
    · exact of_firstOf_none (Option.or_eq_none_iff.mp nobody).2
  all_goals exact h

end

end Sys2Proof.Machine
end

section
/-! SUPPORT and the statement that every step keeps the port links and the clock tracker lawful: settings, requests,
port loss, cycle boundaries, the restart and start-up (R120, R125, R127, R131, R133, R142, R143, R146, R149 to R151). -/

namespace Sys2Proof.Machine

open Sys2Proof.Safety Sys2Proof.Claims

/-! ### Settings (R168, R169) -/

theorem windowOperand_mem {a : Half} {n : Nat} (h : windowOperand a = some n) : n ∈ [2, 4, 8, 16] := by
  simp only [windowOperand, Option.ite_none_right_eq_some, Option.some.injEq] at h
  obtain ⟨window, rfl⟩ := h
  simp only [BitVec.toInt_eq_toNat_cond] at window
  simp only [List.mem_cons, List.not_mem_nil, or_false]
  omega

/-- The settings with an operand of the item's set are settings. -/
theorem Settings.replaced_ok {x y : Settings} {a : Half} {item : SettingItem} (ok : settingsOk x)
    (h : x.replaced a item = some y) : settingsOk y := by
  obtain ⟨window, distinct⟩ := ok
  cases item <;> simp only [Settings.replaced, Option.map_eq_some_iff] at h
  case clockList =>
    obtain ⟨l, operand, rfl⟩ := h
    exact ⟨window, (nibbles_of_clockListOperand operand).1⟩
  case window =>
    obtain ⟨n, operand, rfl⟩ := h
    exact ⟨windowOperand_mem operand, distinct⟩
  all_goals
    obtain ⟨_, -, rfl⟩ := h
    exact ⟨window, distinct⟩

theorem Settings.replaced_clockList {x y : Settings} {a : Half} {item : SettingItem} (other : item ≠ .clockList)
    (h : x.replaced a item = some y) : y.clockList = x.clockList := by
  cases item <;> simp only [Settings.replaced, Option.map_eq_some_iff] at h
  case clockList => exact (other rfl).elim
  all_goals
    obtain ⟨_, -, rfl⟩ := h
    rfl

theorem Store.SettingsLawful.putSettings {st : Store} (h : st.SettingsLawful) {x : Settings} (ok : settingsOk x) :
    (st.putSettings x).SettingsLawful := by
  unfold Store.putSettings
  split
  · exact h
  split
  · exact ⟨ok, h.stored, by rintro _ ⟨⟩; exact ok⟩
  · next w running => exact ⟨ok, h.stored, by rintro _ ⟨⟩; exact h.written w running⟩

section

variable {s t : State}

/-- The table of R136: the refused set is emptied, FREE is left for a candidate, and a reference that the new list
leaves out is lost. -/
theorem tracks_clockListWritten (h : s.Tracks) (clock : t.clock = s.clock) (links : t.links = s.links)
    (settings : t.store.SettingsLawful) : t.clockListWritten.Tracks := by
  have steady : State.Steady { t with clock := { t.clock with refused := [] } } :=
    ⟨by rw [clock]; exact h.clock.withRefused List.nodup_nil (by simp), settings⟩
  have state : t.clock.state = s.clock.state := congrArg Clock.state clock
  unfold State.clockListWritten
  dsimp only
  split
  · next reference =>
    refine tracks_leaveFree steady fun leaves => (leaves ?_).elim
    dsimp only
    cases free : t.clock.state <;> simp only [free, ClockState.reference, reduceCtorEq] at reference
    rfl
  · next r reference =>
    split
    · next listed =>
      refine ⟨steady, h.referenced.transport state (fun q reference' available => ?_) fun free => ?_⟩
      · have same : r = q := Option.some.inj (reference.symm.trans ((congrArg _ state).trans reference'))
        obtain ⟨attached, -⟩ := available
        subst same
        exact ⟨by rw [State.port, links]; exact attached, by simpa [State.listed] using listed⟩
      · simp [state, free, ClockState.reference] at reference
    · exact tracks_loseReference steady fun free => by
        dsimp only at free
        simp [free, ClockState.reference] at reference

theorem tracks_decideSetting (h : s.Tracks) (c : Byte) (a : Half) : (decideSetting c a s).1.Tracks := by
  unfold decideSetting
  split
  · exact h
  next item _ =>
  dsimp only
  split
  · exact h
  split
  · exact h
  next x replaced =>
  have settings := h.settings.putSettings (Settings.replaced_ok h.settings.current replaced)
  dsimp only
  split
  · exact tracks_clockListWritten h rfl rfl settings
  · next other =>
    have list : (s.store.putSettings x).settings.clockList = s.store.settings.clockList := by
      rw [Store.putSettings_settings, Settings.replaced_clockList other replaced]
    refine ⟨⟨h.clock, settings⟩, h.referenced.transport rfl (fun r _ ⟨attached, listed⟩ => ⟨attached, ?_⟩)
      fun _ q ⟨listed, candidate⟩ => ⟨?_, candidate⟩⟩
    · show r ∈ (s.store.putSettings x).settings.clockList
      rw [list]; exact listed
    · rw [← list]; exact listed

/-! ### Requests (R149 to R151) -/

theorem tracks_decideRequest (h : s.Tracks) (p : Port) (r : Request) : (decideRequest p r s).1.Tracks := by
  by_cases setting : r.kind.toNat = 15
  · rw [decideRequest, setting]
    exact tracks_decideSetting h _ _
  · exact (TimedLike.of_links (decideRequest_timekeeping s p setting) (decideRequest_links s p r)).tracks h

theorem tracks_takeOne (h : s.Tracks) (p : Port) : (s.takeOne p).Tracks := by
  cases taking : (s.port p).taking with
  | nil => rw [State.takeOne_nil taking]; exact h
  | cons r later =>
    obtain ⟨rest, queue, place, -⟩ := PortLink.taking_cons taking
    have attach (q : Port) : ((s.takeOne p).port q).attach = ((decideRequest p r s).1.port q).attach := by
      rw [(taken_takeOne s p).attach, State.port, State.port, decideRequest_links]
    refine TimedLike.tracks ⟨?_, attach⟩ (tracks_decideRequest h p r)
    rw [State.takeOne_cons queue place]
    rfl

theorem tracks_takes (h : s.Tracks) (p : Port) (n : Nat) : (s.takes p n).Tracks := by
  induction n generalizing s with
  | zero => exact h
  | succ n ih => exact ih (tracks_takeOne h p)

theorem tracks_drain (h : s.Tracks) (p : Port) : (s.drain p).Tracks := tracks_takes h p _

theorem tracks_foldl {α : Type} {f : State → α → State} (hf : ∀ s a, s.Tracks → (f s a).Tracks) (l : List α)
    (h : s.Tracks) : (l.foldl f s).Tracks := by
  induction l generalizing s with
  | nil => exact h
  | cons a l ih => exact ih (hf s a h)

theorem tracks_takeWaiting (h : s.Tracks) (schedule : List Port) : (s.takeWaiting schedule).Tracks :=
  tracks_foldl (fun _ p h => tracks_drain h p) allPorts (tracks_foldl (fun _ p h => tracks_takeOne h p) schedule h)

/-- A link's queues and copies are not read by the clock tracker. -/
theorem timedLike_setPort {p : Port} {x : PortLink} (attach : x.attach = (s.port p).attach) :
    TimedLike s (s.setPort p x) := by
  refine ⟨rfl, fun q => ?_⟩
  rw [State.port_setPort]
  split
  · next here => rw [here, attach]
  · rfl

theorem tracks_join (h : s.Tracks) (p : Port) (r : Request) : (s.join p r).Tracks := by
  unfold State.join
  split
  · exact tracks_drain ((timedLike_setPort (by rfl)).tracks h) p
  · exact (timedLike_setPort (by rfl)).tracks h

theorem tracks_request (h : s.Tracks) (p : Port) (r : Request) : (s.request p r).Tracks := by
  unfold State.request
  split
  · exact h
  · exact tracks_join h p r

theorem tracks_endCopy (h : s.Tracks) (p : Port) (l : LaneId) (rest : List Byte) : (s.endCopy p l rest).Tracks := by
  have judged (x : Lane) := (timedLike_setLane s p l x).tracks h
  have drawn (t : State) (n : Nat) : TimedLike t { t with draws := n } := .of_links rfl rfl
  unfold State.endCopy
  dsimp only
  split
  · exact h
  · exact (drawn _ _).tracks (judged _)
  · split
    · exact tracks_foldl (fun _ r h => tracks_join h p r) _ ((timedLike_setPort (by rfl)).tracks (judged _))
    · exact judged _

/-! ### The restart and the start (R170, R173) -/

theorem settingsOk_defaults : settingsOk .defaults := by decide

/-- Once the part has stopped running, the restart leaves the clock and sets the settings to their defaults. -/
theorem clockOk_writeDefaults (stopped : s.phase ≠ .running) (range : s.clock.InRange)
    (settings : s.store.SettingsLawful) : clockOk s.writeDefaults := by
  unfold State.writeDefaults
  split
  · exact clockOk_of_stopped stopped range settings
  · exact clockOk_of_stopped Phase.noConfusion range ⟨settingsOk_defaults, settings.stored, settings.written⟩

theorem clockOk_beginRestart (h : s.Tracks) : clockOk s.beginRestart :=
  clockOk_writeDefaults (s := { s with phase := .restartWaits }) Phase.noConfusion h.clock.toInRange h.settings

/-- The part starts in FREE with no port ATTACHED, L being N. -/
theorem clockOk_startUp (stored : settingsOk s.store.settingsCopy.record) : clockOk s.startUp := by
  have loaded : settingsOk s.store.settingsCopy.load := by
    unfold SettingsCopy.load
    split
    · exact stored
    · exact settingsOk_defaults
  have absent (p : Port) : (s.startUp.port p).attach = .absent :=
    congrArg PortLink.attach (Vector.pick_fill (fun _ => PortLink.reset) p)
  have length : s.startUp.clock.length = s.startUp.clock.nominal := (Int.cast_natCast _).symm
  refine State.Tracks.clockOk ⟨⟨⟨⟨Nat.zero_le _, by simp [State.startUp, Clock.reset],
    by simp [State.startUp, Clock.reset], by rw [length]; exact ⟨by simp, by simp⟩, List.nodup_nil⟩,
    ⟨length, rfl, rfl, rfl⟩⟩, ⟨loaded, stored, by simp [State.startUp, Store.start]⟩⟩, fun p candidate => ?_⟩
  obtain ⟨-, attached, -⟩ := candidate
  rw [absent] at attached
  exact Attach.noConfusion attached

/-! ### Port loss and cycle start (R134, R148, R151, R170) -/

theorem clockOk_losePort (h : s.Tracks) (holdings : holdingsOk s) (p : Port) : clockOk (s.losePort p) := by
  have port (q : Port) := s.lostBeforeClock_port holdings p q
  have lost : ((s.lostBeforeClock p).clockDetached p).Tracks :=
    tracks_clockDetached h (State.lostBeforeClock_timekeeping holdings p)
      (fun q ne => by rw [port, if_neg ne]) (by rw [port, if_pos rfl]; exact Attach.noConfusion)
  rw [State.losePort_eq]
  dsimp only
  split
  · exact clockOk_beginRestart lost
  · exact lost.clockOk

theorem clockOk_startCycle (h : s.Tracks) (schedule : List Port) : clockOk (s.startCycle schedule) := by
  have freed : s.freed.Tracks := ((timedLike_startBlocks s).trans (timedLike_leave _)).tracks h
  have taken : (s.freed.takeWaiting schedule).Tracks := tracks_takeWaiting freed schedule
  have downlinks := (timedLike_sendDownlinks (s.freed.takeWaiting schedule) (Claims.nextCount s)
    (.fill fun p => (s.port p).responses.take 4)).tracks taken
  have sent := (timedLike_clearReported _ (digestInput (Claims.nextCount s))).tracks downlinks
  rw [State.startCycle_eq]
  dsimp only
  split
  · exact clockOk_beginRestart sent
  · exact sent.clockOk

/-! ### Every command -/

/-- A command that acts while the part runs. -/
theorem clockOk_whenRunning (ok : clockOk s) (h : s.Tracks → clockOk t) : clockOk (s.whenRunning t) := by
  by_cases running : s.phase = .running
  · rw [State.whenRunning_running _ running]; exact h (.of_clockOk ok running)
  · rw [State.whenRunning_stopped _ running]; exact ok

theorem Store.SettingsLawful.settingsWritten {st : Store} (h : st.SettingsLawful) {w : SettingsWrite}
    (running : st.settingsWrite = some w) : (st.settingsWritten w).SettingsLawful := by
  refine ⟨h.current, h.written w running, fun x hx => ?_⟩
  unfold Store.settingsWritten at hx
  dsimp only at hx
  split at hx
  · cases hx; exact h.current
  · cases hx

theorem exec_clockOk {c : Instr} {s t : State} (ok : clockOk s) (holdings : holdingsOk s) (h : exec c s = .next t) :
    clockOk t := by
  obtain ⟨laws, range, settings⟩ := (clockOk_iff s).mp ok
  have requests (p : Port) (r : Request) : clockOk (s.whenRunning (s.request p r)) :=
    clockOk_whenRunning ok fun h => (tracks_request h p r).clockOk
  have running {t : State} (h : s.Tracks → t.Tracks) : clockOk (s.whenRunning t) :=
    clockOk_whenRunning ok fun tracks => (h tracks).clockOk
  have like {t : State} (time : t.timekeeping = s.timekeeping) (links : t.links = s.links) :
      clockOk (s.whenRunning t) := running (TimedLike.of_links time links).tracks
  cases c <;> cases h
  case copyStart p l rest =>
    exact running fun h => (timedLike_setLane _ p l _).tracks (tracks_endCopy h p l rest)
  case signalLoss p l rest => exact running fun h => tracks_endCopy h p l rest
  case headerArrival p l count n hi lo tick => exact running fun h => tracks_arrive h p l count n hi lo tick
  case miss p l => exact running fun h => tracks_missLane h p l
  case graceExpiry p =>
    refine clockOk_whenRunning ok fun h => ?_
    split
    · exact clockOk_losePort h holdings p
    · exact ok
  case cycleStart schedule => exact clockOk_whenRunning ok fun h => clockOk_startCycle h schedule
  case cycleEnd samples => exact running (timedLike_endCycle s samples).tracks
  case modeTimerExpiry i => exact like rfl rfl
  case chargeTimerExpiry g => exact like (s.changeGroup_timekeeping g _) (s.changeGroup_links g _)
  case dischargeTimerExpiry g => exact like (s.changeGroup_timekeeping g _) (s.changeGroup_links g _)
  case lowSenseTimerExpiry g => exact like (s.changeGroup_timekeeping g _) (s.changeGroup_links g _)
  case faultVoidTimerExpiry g => exact like rfl rfl
  case senseChange g level => exact TimedLike.clockOk (.of_links rfl rfl) ok
  case acquireTimerExpiry => exact running tracks_acquireExpired
  case holdoverTimerExpiry => exact running tracks_holdoverExpired
  case quietTimerExpiry => exact like (by split <;> rfl) (by split <;> rfl)
  case ceilingTimerExpiry => exact like (by split <;> rfl) (by split <;> rfl)
  case frontEndWriteComplete =>
    split
    · exact TimedLike.clockOk (.of_links rfl rfl) ok
    · next phase => exact clockOk_writeDefaults (by simp [phase]) range (settings.of_eq rfl rfl rfl)
    · exact ok
  case settingsWriteComplete =>
    split
    · next w write phase =>
      exact (clockOk_iff _).mpr ⟨laws, range, settings.settingsWritten write⟩
    · next w write phase =>
      have written := settings.settingsWritten write
      exact clockOk_writeDefaults (by simp [phase]) range ⟨written.current, written.stored, by simp⟩
    · exact ok
  case factoryWriteComplete =>
    split
    · exact clockOk_of_stopped Phase.noConfusion range ⟨settings.current, settings.current, settings.written⟩
    · exact clockOk_startUp settings.stored
    all_goals exact ok
  case setupSwitchTurn x => exact TimedLike.clockOk (.of_links rfl rfl) ok
  case powerOn a b => exact clockOk_startUp settings.stored
  case powerLoss =>
    exact clockOk_of_stopped Phase.noConfusion range ⟨settings.current, settings.stored, by simp⟩
  all_goals exact requests _ _

end

end Sys2Proof.Machine

namespace Sys2Proof.Proofs

open Sys2Proof.Machine Sys2Proof.Safety

/-- Settles O60: every command keeps the links lawful and the clock tracker lawful, each by itself; of the rest of the
invariant only the lawful holdings are needed, where a port is lost. -/
theorem stepsKeepLinksAndClock : Obligations.StepsKeepLinksAndClock := by
  intro s t inv h
  obtain ⟨-, -, holdings, -, -, -, -, -, links, clock, -⟩ := inv
  unfold step at h
  split at h
  · cases h; exact ⟨links, clock⟩
  next rest _ =>
  have front : clockOk { s with pending := rest } := TimedLike.clockOk (.of_links rfl rfl) clock
  exact ⟨exec_linksOk (s := { s with pending := rest }) links holdings h, exec_clockOk front holdings h⟩

end Sys2Proof.Proofs
end

section
/-! SUPPORT and the statements on the UNKNOWN request and on requests that find no place (R149, R150, R155). -/

namespace Sys2Proof.Machine

open Sys2Proof.Safety Sys2Proof.Claims

/-- The port link itself answers a kind outside the table of R154, and no block acts (R155). -/
theorem decideRequest_unknown {r : Request} (h : r.kind.toNat = 0 ∨ 16 < r.kind.toNat) (p : Port) (s : State) :
    decideRequest p r s = (s, { outcome := .unknown }) := by
  unfold decideRequest
  split
  case h_17 => rfl
  all_goals omega

/-- A plain frame is the request that its command presents. -/
theorem Request.plain_eq_self {r : Request} (h : plainFrame r) : r.plain = r := by
  obtain ⟨kind, c, a, b⟩ := r
  rcases h with reads | ⟨rfl, reads | rfl⟩
  · rcases List.mem_pair.mp reads with h | h <;> simp only [Request.plain, h]
  · unfold Request.plain
    split
    case h_12 => simp_all
    all_goals rfl
  · unfold Request.plain
    split <;> rfl

theorem exec_commandOf_plain {s : State} {r : Request} (running : s.phase = .running) (p : Port)
    (plain : plainFrame r) : exec (commandOf p r) s = .next (s.request p r) := by
  rw [exec_commandOf, State.whenRunning_running _ running, Request.plain_eq_self plain]

end Sys2Proof.Machine

namespace Sys2Proof.Proofs

open Sys2Proof.Machine Sys2Proof.Claims

/-- Settles O27: the request is taken as it arrives, and its decision leaves the state as it is. -/
theorem unknownKindsAreAnswered : Obligations.UnknownKindsAreAnswered := by
  intro s p kind c ready outside
  let r : Request := { kind := kind, target := c, a := 0, b := 0 }
  have decided : decideRequest p r s = (s, { outcome := .unknown }) := decideRequest_unknown outside p s
  have taken := State.whenRunning_request r ready
  rw [decided] at taken
  exact congrArg Host.Outcome.next taken

/-- Settles O28: the command presents its frame, which waits or is dropped. -/
theorem aRequestWaitsOrOverruns : Obligations.ARequestWaitsOrOverruns := by
  intro s p r plain running present full
  rw [exec_commandOf_plain running p plain]
  exact ⟨fun place => congrArg Host.Outcome.next (State.request_waits r present place full),
    fun noPlace => congrArg Host.Outcome.next (State.request_overruns r present noPlace)⟩

end Sys2Proof.Proofs
end

section
/-! SUPPORT and the statement on headers that do not bring their lane UP (R141 to R143). -/

namespace Sys2Proof.Machine

open Sys2Proof.Claims

section

variable {s : State} {p : Port} {l : LaneId} {count requests hi lo : Byte}

/-- A header that fails its CRC is kept as not valid, without a count error (R141). -/
theorem Lane.judgeHeader_invalid (x : Lane) (fails : ¬ headerChecks count requests hi lo) :
    x.judgeHeader count requests hi lo =
      { count, requests, valid := false, countError := false } := by
  have invalid : (crc16 [count, requests] == hi ++ lo) = false := beq_false_of_ne fails
  simp [Lane.judgeHeader, invalid]

/-- A header that fails its CRC does not act on the lane (R141). -/
theorem State.arrive_invalid (copy : (s.lane p l).copy = some { header := none })
    (fails : ¬ headerChecks count requests hi lo) (tick : Nat) :
    s.arrive p l count requests hi lo tick = s.setLane p l { s.lane p l with
      copy := some { header := some { count, requests, valid := false, countError := false } } } := by
  rw [State.arrive, if_pos copy, Lane.judgeHeader_invalid _ fails]
  exact if_neg Bool.false_ne_true

/-- A valid header that neither finds its lane UP nor brings it UP changes the lane alone (R142). -/
theorem State.arrive_below (copy : (s.lane p l).copy = some { header := none })
    (checks : headerChecks count requests hi lo) (below : (s.lane p l).state ≠ .up) {y : Lane}
    (lane : ((s.lane p l).judged count requests).validHeader count (missLength s) = y) (still : y.state ≠ .up)
    (tick : Nat) : s.arrive p l count requests hi lo tick = s.setLane p l y := by
  rw [← missTicks_eq] at lane
  rw [State.arrive_valid copy checks, State.validHeader, State.lane_setLane_self, if_neg below,
    show State.clock (s.setLane p l _) = s.clock from rfl, lane]
  exact (if_neg still).trans (State.setLane_setLane s p l _ y)

end

end Sys2Proof.Machine

namespace Sys2Proof.Proofs

open Sys2Proof.Machine Sys2Proof.Claims

/-- Settles O34: a header is judged by its CRC, and a valid one acts by the state of a lane that is not UP. -/
theorem headersAreJudgedAndCountTheLaneUp : Obligations.HeadersAreJudgedAndCountTheLaneUp := by
  intro s p l count requests hi lo tick running copy
  simp only [← State.lane_eq_laneAt, ← State.setLane_eq_withLane] at copy ⊢
  refine ⟨fun fails => ?_, fun checks down => ?_, fun checks syncing few => ?_⟩
  · exact exec_headerArrival running (State.arrive_invalid copy fails tick)
  · refine exec_headerArrival running (State.arrive_below copy checks (by simp [down]) ?_ (by simp) tick)
    simp only [Lane.validHeader, down]
  · have more : ¬ Config.validHeadersForUp ≤ (s.lane p l).validCount + 1 := by
      simp only [Config.validHeadersForUp]; omega
    refine exec_headerArrival running (State.arrive_below copy checks (by simp [syncing]) ?_ (by simp [syncing]) tick)
    simp only [Lane.validHeader, syncing, more, if_false]

end Sys2Proof.Proofs
end

section
/-! SUPPORT and the statements on the CRC register and on request frames (R140, R141, R153). -/

namespace Sys2Proof.Machine

open Sys2Proof.Claims

/-! ### The CRC register (R140) -/

/-- A bit that equals the register's top bit shifts it out. -/
theorem crcBit_msb (reg : BitVec 16) : crcBit reg reg.msb = reg <<< 1 := by simp [crcBit]

/-- The first bits of the register's own top byte shift themselves out. -/
theorem foldl_crcBit_top (reg : BitVec 16) {n : Nat} (hn : n ≤ 8) :
    (List.range n).foldl (fun r j => crcBit r ((reg.extractLsb' 8 8).getLsbD (7 - j))) reg = reg <<< n := by
  induction n with
  | zero => simp
  | succ n ih =>
    have top : (reg.extractLsb' 8 8).getLsbD (7 - n) = (reg <<< n).msb := by
      have index : 16 - 1 - n = 8 + (7 - n) := by omega
      have inside : 7 - n < 8 ∧ ¬ 8 + (7 - n) < n ∧ n ≤ 15 := by omega
      rw [BitVec.msb_eq_getLsbD_last, BitVec.getLsbD_shiftLeft, BitVec.getLsbD_extractLsb', index]
      simp [inside]
    rw [List.range_succ, List.foldl_append, ih (by omega), List.foldl_cons, List.foldl_nil, top, crcBit_msb,
      BitVec.shiftLeft_add]

theorem crcByte_top (reg : BitVec 16) : crcByte reg (reg.extractLsb' 8 8) = reg <<< 8 :=
  foldl_crcBit_top reg le_rfl

/-- The register's own two bytes, most significant first, bring it to 0. -/
theorem foldl_crcByte_self (reg : BitVec 16) : (bytesOf16 reg).foldl crcByte reg = 0 := by
  have second : reg.extractLsb' 0 8 = (reg <<< 8).extractLsb' 8 8 := by
    ext k hk
    have inside : 8 + k < 16 := by omega
    simpa [inside] using BitVec.getLsbD_eq_getElem (x := reg) (by omega)
  rw [bytesOf16, List.foldl_cons, List.foldl_cons, List.foldl_nil, crcByte_top, second, crcByte_top,
    ← BitVec.shiftLeft_add]
  exact BitVec.shiftLeft_eq_zero (by decide)

/-! ### One frame (8.8.1) -/

/-- A two-byte field is its two bytes, most significant first (R153). -/
theorem bytes_append (x : BitVec 16) : x.extractLsb' 8 8 ++ x.extractLsb' 0 8 = x := by
  rw [BitVec.extractLsb'_append_extractLsb'_eq_extractLsb' (by rfl)]
  exact BitVec.extractLsb'_eq_self

/-- The body of a request's frame is parsed to the request exactly with its own CRC. -/
theorem parseFrame_body (r : Request) (crc : BitVec 16) :
    parseFrame ((frameBytes r).take 6 ++ bytesOf16 crc) =
      if crc16 ((frameBytes r).take 6) = crc then some r else none := by
  simp [parseFrame, bytesOf16, bytes_append]

theorem parseFrame_frameBytes (r : Request) : parseFrame (frameBytes r) = some r :=
  (parseFrame_body r _).trans (if_pos rfl)

/-- Eight bytes are no frame exactly where their CRC fails. -/
theorem parseFrame_eq_none_iff {frame : List Byte} (h : frame.length = 8) :
    parseFrame frame = none ↔ crc16 (frame.take 6) ≠ frame.getD 6 0 ++ frame.getD 7 0 := by
  match frame, h with
  | [b0, b1, b2, b3, b4, b5, b6, b7], _ => simp [parseFrame]

/-! ### The frames of a copy (R141) -/

theorem parseFrames_succ (n : Nat) (bytes : List Byte) :
    parseFrames (n + 1) bytes =
      (parseFrame (bytes.take 8)).bind fun r => (parseFrames n (bytes.drop 8)).map (r :: ·) := by
  rw [parseFrames]
  cases parseFrame (bytes.take 8) <;> cases parseFrames n (bytes.drop 8) <;> rfl

/-- The first frame is parsed apart from those behind it. -/
theorem parseFrames_append {frame : List Byte} (h : frame.length = 8) (n : Nat) (bytes : List Byte) :
    parseFrames (n + 1) (frame ++ bytes) =
      (parseFrame frame).bind fun r => (parseFrames n bytes).map (r :: ·) := by
  rw [parseFrames_succ, List.take_left' h, List.drop_left' h]

/-- The frames of requests are parsed to them, whatever stands behind. -/
theorem parseFrames_frameBytes (requests : List Request) (n : Nat) (bytes : List Byte) :
    parseFrames (requests.length + n) ((requests.map frameBytes).flatten ++ bytes) =
      (parseFrames n bytes).map (requests ++ ·) := by
  induction requests with
  | nil => simp
  | cons r requests ih =>
    rw [List.length_cons, Nat.add_right_comm, List.map_cons, List.flatten_cons, List.append_assoc,
      parseFrames_append rfl, parseFrame_frameBytes, ih, Option.bind_some, Option.map_map]
    rfl

theorem parseFrames_flatten (requests : List Request) :
    parseFrames requests.length (requests.map frameBytes).flatten = some requests := by
  simpa [parseFrames] using parseFrames_frameBytes requests 0 []

/-- A copy that holds its frames is not parsed exactly where the CRC of one of them fails. -/
theorem parseFrames_eq_none_iff {n : Nat} {bytes : List Byte} (h : bytes.length = 8 * n) :
    parseFrames n bytes = none ↔ ∃ k < n, parseFrame ((bytes.drop (8 * k)).take 8) = none := by
  induction n generalizing bytes with
  | zero => simp [parseFrames]
  | succ n ih =>
    have rest : (bytes.drop 8).length = 8 * n := by rw [List.length_drop]; omega
    have shift (k : Nat) : (bytes.drop 8).drop (8 * k) = bytes.drop (8 * (k + 1)) := by
      rw [List.drop_drop]; congr 1; omega
    rw [parseFrames_succ, Option.bind_eq_none_iff, Nat.exists_lt_succ_left]
    simp only [Option.map_eq_none_iff, ih rest, shift, Nat.mul_zero, List.drop_zero]
    cases parseFrame (bytes.take 8) <;> simp

end Sys2Proof.Machine

namespace Sys2Proof.Proofs

open Sys2Proof.Machine Sys2Proof.Claims

/-- Settles O29: the bytes leave their CRC in the register, and its own two bytes shift it out. -/
theorem bytesWithTheirCrcLeaveZero : Obligations.BytesWithTheirCrcLeaveZero := by
  intro bytes
  rw [withCrc, crc16, List.foldl_append]
  exact foldl_crcByte_self (crc16 bytes)

/-- Settles O30: frames are parsed one by one, and the altered one ends the parse. -/
theorem requestFramesReadBack : Obligations.RequestFramesReadBack := by
  refine ⟨parseFrames_flatten, fun before after r bad altered => ?_⟩
  have none : parseFrame ((frameBytes r).take 6 ++ bytesOf16 bad) = none :=
    (parseFrame_body r bad).trans (if_neg altered.symm)
  rw [Nat.add_assoc, Nat.add_comm 1, List.append_assoc, parseFrames_frameBytes]
  rw [show [bad.extractLsb' 8 8, bad.extractLsb' 0 8] = bytesOf16 bad from rfl, parseFrames_append rfl, none]
  rfl

end Sys2Proof.Proofs
end

section
/-! SUPPORT and the statements on the end of a copy (R141, R144, R145, R149): how it is judged, what it leaves where it
is not taken, and that the frames of a taken one join the queue as the requests of their commands. -/

namespace Sys2Proof.Machine

open Sys2Proof.Safety Sys2Proof.Claims

/-! ### The judgement of a copy (R141, R145) -/

section

variable (h : ArrivedHeader) (rest : List Byte)

theorem ArrivedHeader.lengthError_eq : h.lengthError rest = decide (lengthWrong h rest) := by
  rw [Bool.eq_iff_iff]
  simp [ArrivedHeader.lengthError]

/-- With the length right, the copy is not parsed exactly where a frame fails its CRC. -/
theorem parseFrames_isNone_iff (length : rest.length = 8 * h.requests.toNat) :
    (parseFrames h.requests.toNat rest).isNone = true ↔ frameFails h rest := by
  rw [Option.isNone_iff_eq_none, parseFrames_eq_none_iff length]
  refine exists_congr fun k => and_congr_right fun hk => parseFrame_eq_none_iff ?_
  rw [List.length_take, List.length_drop]
  omega

theorem ArrivedHeader.crcError_eq : h.crcError rest = decide (crcWrong h rest) := by
  rw [Bool.eq_iff_iff, decide_eq_true_iff, ArrivedHeader.crcError, ArrivedHeader.lengthError_eq]
  simp only [Bool.or_eq_true, Bool.and_eq_true, Bool.not_eq_true', decide_eq_false_iff_not]
  refine or_congr_right' fun valid => and_congr_right fun right => parseFrames_isNone_iff h rest ?_
  by_contra wrong
  exact right ⟨by simpa using valid, .inr wrong⟩

/-- The lane status record of a copy whose header arrived (R144). -/
theorem ArrivedHeader.status_eq (taken : Bool) :
    { h.status rest with copyTaken := taken } = statusOf h rest taken := by
  rw [ArrivedHeader.status, ArrivedHeader.crcError_eq, ArrivedHeader.lengthError_eq]

theorem fresh_iff (count : Byte) (last : Option Byte) : fresh count last = true ↔ countTakes count last := by
  cases last with
  | none => simp [fresh]
  | some last =>
    rw [fresh, Bool.and_eq_true, decide_eq_true_iff, decide_eq_true_iff]
    rfl

theorem isTaken_iff (s : State) (p : Port) (l : LaneId) :
    ((s.lane p l).state == .up && h.usable rest && fresh h.count (s.port p).lastTaken) = true ↔
      isTaken s p l h rest := by
  rw [isTaken, ← fresh_iff, ← State.lane_eq_laneAt]
  simp only [ArrivedHeader.usable, ArrivedHeader.crcError_eq, ArrivedHeader.lengthError_eq, Bool.and_eq_true,
    Bool.not_eq_true', decide_eq_false_iff_not, beq_iff_eq]
  tauto

end

/-! ### The end of a copy (R144, R145) -/

section

variable {s : State} {p : Port} {l : LaneId} {h : ArrivedHeader}

theorem State.endCopy_none (copy : (s.lane p l).copy = none) (rest : List Byte) : s.endCopy p l rest = s := by
  rw [State.endCopy, copy]

theorem State.endCopy_short (copy : (s.lane p l).copy = some { header := none }) (rest : List Byte) :
    s.endCopy p l rest = { s.setLane p l { s.lane p l with copy := none, status := shortStatus s.draws } with
      draws := s.draws + 1 } := by
  rw [State.endCopy, copy]

theorem State.endCopy_untaken {rest : List Byte} (copy : (s.lane p l).copy = some { header := some h })
    (untaken : ¬ isTaken s p l h rest) :
    s.endCopy p l rest = s.setLane p l { s.lane p l with copy := none, status := statusOf h rest false } := by
  have taken := Bool.eq_false_iff.mpr (mt (isTaken_iff h rest s p l).mp untaken)
  rw [State.endCopy, copy]
  dsimp only
  rw [taken, ArrivedHeader.status_eq]
  rfl

/-- The state that the frames of a taken copy find is the link's own part of taking it. -/
theorem State.endCopy_taken {rest : List Byte} (copy : (s.lane p l).copy = some { header := some h })
    (taken : isTaken s p l h rest) {frames : List Request} (parsed : parseFrames h.requests.toNat rest = some frames) :
    s.endCopy p l rest = frames.foldl (fun t r => t.join p r) (takenState s p l h rest) := by
  have kept : (s.setLane p l { s.lane p l with copy := none, status := statusOf h rest true }).setPort p
      { (s.setLane p l { s.lane p l with copy := none, status := statusOf h rest true }).port p with
        lastTaken := some h.count, laneLastUsed := some l } = takenState s p l h rest := by
    rw [State.setLane_port, if_pos rfl, State.setLane, State.setPort_setPort, PortLink.setLane_eq_linkWith,
      State.lane_eq_laneAt]
    rfl
  rw [State.endCopy, copy]
  dsimp only
  rw [(isTaken_iff h rest s p l).mpr taken, ArrivedHeader.status_eq, parsed, ← kept]
  rfl

/-- A new copy begins on a lane just written (R141). -/
theorem State.beginCopy_setLane (s : State) (p : Port) (l : LaneId) (x : Lane) :
    (s.setLane p l x).beginCopy p l = s.setLane p l { x with copy := some { header := none } } := by
  rw [State.beginCopy, State.lane_setLane_self, State.setLane_setLane]

end

/-! ### Requests that join the queue (R149) -/

/-- A link rewritten beside its lane keeps the lane. -/
theorem State.setPort_lane {s : State} {p : Port} {l : LaneId} {x : PortLink} (same : x.lane l = s.lane p l) :
    (s.setPort p x).lane p l = s.lane p l := by
  rw [State.lane, State.port_setPort, if_pos rfl, same]

/-- A request that joins the queue, and what is then taken, leave the port's lanes as they are. -/
theorem State.join_lane (s : State) (p : Port) (r : Request) (l : LaneId) : (s.join p r).lane p l = s.lane p l := by
  unfold State.join
  split
  · have queued : (s.setPort p { s.port p with requests := (s.port p).requests ++ [r] }).lane p l = s.lane p l :=
      State.setPort_lane (by cases l <;> rfl)
    rw [← queued, State.lane, State.drain, ((taken_takes _ p _).takes p).frame]
    cases l <;> rfl
  · exact State.setPort_lane (by cases l <;> rfl)

theorem State.join_phase (s : State) (p : Port) (r : Request) : (s.join p r).phase = s.phase := by
  unfold State.join
  split
  · exact State.footing_phase (taken_drain _ p).footing
  · rfl

theorem State.takeCopy_lane (s : State) (p : Port) (l : LaneId) (count : Byte) (frames : List Request) :
    (s.takeCopy p l count frames).lane p l = s.lane p l := by
  have joins (t : State) : (frames.foldl (fun t r => t.join p r) t).lane p l = t.lane p l := by
    induction frames generalizing t with
    | nil => rfl
    | cons r frames ih => exact (ih (t.join p r)).trans (t.join_lane p r l)
  exact (joins _).trans (State.setPort_lane (by cases l <;> rfl))

/-- The commands of plain frames let their requests join the queue, one after another. -/
theorem runs_commandOf_plain {frames : List Request} {p : Port} (plain : ∀ r ∈ frames, plainFrame r) {s : State}
    (running : s.phase = .running) (present : (s.port p).attach ≠ .absent) :
    runs (frames.map (commandOf p)) s = .next (frames.foldl (fun t r => t.join p r) s) := by
  induction frames generalizing s with
  | nil => rfl
  | cons r frames ih =>
    obtain ⟨first, others⟩ := List.forall_mem_cons.mp plain
    have joins : exec (commandOf p r) s = .next (s.join p r) :=
      (exec_commandOf_plain running p first).trans (congrArg _ (if_neg present))
    rw [List.map_cons, runs_cons joins]
    exact ih others ((s.join_phase p r).trans running) (by rwa [(serves_join present r).attach])

/-- A request that is taken as it arrives acts as its command, whatever stands in the operands its kind does not
read. -/
theorem exec_commandOf_ready {s : State} {p : Port} (ready : ready s p) (r : Request) :
    exec (commandOf p r) s = .next (s.join p r) := by
  obtain ⟨running, present, -⟩ := id ready
  have response (y : Reply) : y.toResponse r.plain = y.toResponse r := by simp [Reply.toResponse]
  have joins : s.join p r = s.whenRunning (s.request p r) :=
    ((State.whenRunning_running _ running).trans (if_neg present)).symm
  rw [exec_commandOf, joins, State.whenRunning_request _ ready, State.whenRunning_request _ ready, decideRequest_plain,
    response]

/-! ### The commands that end a copy -/

theorem exec_signalLoss {s : State} (running : s.phase = .running) (p : Port) (l : LaneId) (rest : List Byte) :
    exec (.signalLoss p l rest) s = .next (s.endCopy p l rest) :=
  congrArg Host.Outcome.next (State.whenRunning_running _ running)

theorem exec_copyStart {s : State} (running : s.phase = .running) (p : Port) (l : LaneId) (rest : List Byte) :
    exec (.copyStart p l rest) s = .next ((s.endCopy p l rest).beginCopy p l) :=
  congrArg Host.Outcome.next (State.whenRunning_running _ running)

/-- The lane has no copy in progress once one has ended (R141). -/
theorem State.endCopy_copy (s : State) (p : Port) (l : LaneId) (rest : List Byte) :
    ((s.endCopy p l rest).lane p l).copy = none := by
  unfold State.endCopy
  dsimp only
  split
  · next copy => exact copy
  · exact congrArg Lane.copy (State.lane_setLane_self s p l _)
  · split
    · rw [State.takeCopy_lane, State.lane_setLane_self]
    · rw [State.lane_setLane_self]

end Sys2Proof.Machine

namespace Sys2Proof.Proofs

open Sys2Proof.Machine Sys2Proof.Claims

/-- Settles O31: both commands end the copy in progress alike, and COPY_START then writes the lane's copy. -/
theorem copyStartEndsTheCopyAndBeginsOne : Obligations.CopyStartEndsTheCopyAndBeginsOne := by
  intro s p l rest running
  simp only [← State.lane_eq_laneAt, ← State.setLane_eq_withLane]
  refine ⟨⟨_, exec_signalLoss running p l rest, s.endCopy_copy p l rest, exec_copyStart running p l rest⟩,
    fun copy => ?_⟩
  rw [exec_signalLoss running, State.endCopy_none copy]

/-- Settles O32: the lane alone is written, with the status of a copy whose header arrived or of a short one. -/
theorem anUntakenCopyOnlyRewritesTheStatus : Obligations.AnUntakenCopyOnlyRewritesTheStatus := by
  intro s p l rest running
  simp only [exec_signalLoss running, exec_copyStart running, ← State.lane_eq_laneAt, ← State.setLane_eq_withLane,
    ← PortLink.setLane_eq_linkWith]
  refine ⟨fun h copy untaken => ?_, fun copy => ?_⟩
  · rw [State.endCopy_untaken copy untaken]
    exact ⟨rfl, congrArg _ (State.beginCopy_setLane s p l _)⟩
  · rw [State.endCopy_short copy]
    exact ⟨rfl, congrArg (fun t : State => Host.Outcome.next { t with draws := s.draws + 1 })
      (State.beginCopy_setLane s p l _)⟩

/-- Settles O33: the frames read back and join the queue as their commands' requests. -/
theorem aTakenCopyActsAsItsRequests : Obligations.ATakenCopyActsAsItsRequests := by
  intro s p l h requests running present count copy rest taken
  rw [← State.lane_eq_laneAt] at copy
  have parsed : parseFrames h.requests.toNat rest = some requests := by rw [count]; exact parseFrames_flatten requests
  have port : (takenState s p l h rest).port p =
      { linkWith (s.port p) l { laneAt s p l with copy := none, status := statusOf h rest true } with
        lastTaken := some h.count, laneLastUsed := some l } := Vector.pick_put_self _ _ _
  rw [exec_signalLoss running, State.endCopy_taken copy taken parsed]
  refine ⟨fun plain => (runs_commandOf_plain (s := takenState s p l h rest) plain running ?_).symm,
    fun r one ready => ?_⟩
  · rw [port]; cases l <;> exact present
  · subst one
    refine (exec_commandOf_ready ?_ r).symm
    obtain ⟨-, -, empty, place⟩ := ready
    rw [Claims.ready, port]
    exact ⟨running, by cases l <;> exact present, by cases l <;> exact empty, by cases l <;> exact place⟩

end Sys2Proof.Proofs
end

section
/-! SUPPORT and the statement on the loss of a port (R45, R118, R134, R148, R163): the loss handling of several units is
that of each by itself, since a unit's members belong to no other. -/

namespace Sys2Proof.Machine

open Sys2Proof.Safety Sys2Proof.Claims

/-! ### What a loss leaves of each input (R45, R56, R57) -/

/-- The holding of an input once the port is lost: its unit passes on where the port held it, and the port waits no
more. -/
def State.lostHolding (s : State) (p : Port) (i : InputNo) : Holding where
  holder := if (s.holding (s.unitOf i)).holder = some p then (s.holding (s.unitOf i)).queue.head?
    else (s.holding i).holder
  queue := if (s.holding (s.unitOf i)).holder = some p then (s.holding i).queue.tail
    else (s.holding i).queue.filter (· ≠ p)

/-- The record of a port for an input once `p` is lost: released where `p` held the unit, re-based for the port that
gets it. -/
def State.lostRecord (s : State) (p q : Port) (i : InputNo) : CompRecord :=
  if (s.holding (s.unitOf i)).holder ≠ some p then s.record q i
  else if q = p then released (s.record q i) (s.effective i)
  else if (s.holding (s.unitOf i)).queue.head? = some q then granted (s.record q i) (s.effective i)
  else s.record q i

/-! ### Units and their members (R25) -/

theorem State.unitOf_isUnit (s : State) (i : InputNo) : s.isLinkedOdd (s.unitOf i) = false := by
  unfold State.unitOf
  split
  · exact s.isLinkedOdd_evenOf _
  · next unlinked => simp [State.isLinkedOdd, unlinked]

theorem State.mem_members_iff {s : State} {u : InputNo} (hu : s.isLinkedOdd u = false) (i : InputNo) :
    i ∈ s.members u ↔ s.unitOf i = u := by
  rw [State.mem_members hu]
  constructor
  · rintro (rfl | ⟨linked, same⟩)
    · exact State.unitOf_eq_self hu
    · rw [← State.unitOf_eq_self hu, State.unitOf, State.unitOf, same, if_pos linked, if_pos linked]
  · rintro rfl
    unfold State.unitOf
    split
    · next linked => exact .inr ⟨by simpa using linked, by simp⟩
    · exact .inl rfl

theorem SameButHands.unitOf {s t : State} (h : SameButHands s t) (i : InputNo) : t.unitOf i = s.unitOf i :=
  congrArg (·.unitOf i) h

theorem SameButHands.eq {s t : State} (h : SameButHands s t) : t = { s with arbiter := t.arbiter } :=
  congrArg (fun x : State => { x with arbiter := t.arbiter }) h

/-- With lawful holdings, an input beside its unit's own has the unit's holder and an empty queue (R25). -/
theorem holding_beside_unit {s : State} (ok : holdingsOk s) {i : InputNo} (beside : i ≠ s.unitOf i) :
    (s.holding i).holder = (s.holding (s.unitOf i)).holder ∧ (s.holding i).queue = [] := by
  cases linked : s.linked (pairOf i) with
  | false => exact absurd (by simp [State.unitOf, linked]) beside
  | true =>
    have unit : s.unitOf i = evenOf (pairOf i) := by simp [State.unitOf, linked]
    have odd : i = oddOf (pairOf i) := (eq_evenOf_or_oddOf i).resolve_left (unit ▸ beside)
    have pair := ((holdingsOk_iff s).mp ok).2 _ linked
    rwa [← odd, ← unit] at pair

/-! ### The loss handling of units -/

/-- `t` is `s` after the loss handling of `p` on these units. -/
structure UnitsLost (s : State) (p : Port) (units : List InputNo) (t : State) : Prop where
  frame : SameButHands s t
  holding : ∀ i, t.holding i = if s.unitOf i ∈ units then s.lostHolding p i else s.holding i
  record : ∀ q i, t.record q i = if s.unitOf i ∈ units then s.lostRecord p q i else s.record q i

theorem State.loseUnit_holding {s : State} (ok : holdingsOk s) (p : Port) {u : InputNo}
    (hu : s.isLinkedOdd u = false) (i : InputNo) :
    (s.loseUnit p u).holding i = if s.unitOf i = u then s.lostHolding p i else s.holding i := by
  obtain ⟨nodup, other, -⟩ := ((holdingsOk_iff s).mp ok).1 u
  have closed : (s.holding u).queue.erase p = (s.holding u).queue.filter (· ≠ p) := by
    rw [nodup.erase_eq_filter]
    exact List.filter_congr fun q _ => by rw [bne, beq_eq_decide, decide_not]
  rw [(State.loseUnit_unitBecomes p hu ok).holding, Holding.lose]
  simp only [State.mem_members_iff hu]
  by_cases own : s.unitOf i = u
  · rw [if_pos own, if_pos own, State.lostHolding, own]
    by_cases same : i = u
    · subst same
      rw [if_pos rfl, closed]
      split
      · next held =>
        have outside : p ∉ (s.holding i).queue.tail := fun waits => other p (List.mem_of_mem_tail waits) held
        rw [List.erase_of_not_mem outside]
      · rfl
    · obtain ⟨holder, empty⟩ := holding_beside_unit ok (i := i) (by rwa [own])
      rw [own] at holder
      simp only [same, if_false, holder, empty]
      split <;> rfl
  · have beside : i ≠ u := by rintro rfl; exact own (State.unitOf_eq_self hu)
    rw [if_neg own, if_neg beside, if_neg own]

theorem State.loseUnit_record {s : State} (ok : holdingsOk s) (p q : Port) {u : InputNo}
    (hu : s.isLinkedOdd u = false) (i : InputNo) :
    (s.loseUnit p u).record q i = if s.unitOf i = u then s.lostRecord p q i else s.record q i := by
  obtain ⟨-, other, -⟩ := ((holdingsOk_iff s).mp ok).1 u
  have withdrawn (t : State) : (t.withdraw u p).record q i = t.record q i := rfl
  simp only [State.loseUnit, hu, Bool.false_eq_true, if_false, withdrawn]
  by_cases held : (s.holding u).holder = some p
  · have outside : p ∉ (s.holding u).queue := fun waits => other p waits held
    rw [if_pos held, State.passOn_record p q i hu outside, ite_not, CompRecord.freeze_eq_released,
      CompRecord.rebase_eq_granted]
    refine ite_congr (propext (State.mem_members_iff hu i)) (fun own => ?_) fun _ => rfl
    rw [State.lostRecord, own, if_neg (not_not.mpr held)]
  · rw [if_neg held]
    split
    · next own => rw [State.lostRecord, own, if_pos held]
    · rfl

theorem unitsLost_loseUnit {s : State} (ok : holdingsOk s) (p : Port) (u : InputNo) :
    UnitsLost s p [u] (s.loseUnit p u) := by
  have frame := (loses_loseUnit ok p u).frame
  cases hu : s.isLinkedOdd u with
  | true =>
    have same : s.loseUnit p u = s := by simp [State.loseUnit, hu]
    have none (i : InputNo) : s.unitOf i ∉ [u] := fun own => by
      have unit := s.unitOf_isUnit i
      rw [List.mem_singleton.mp own, hu] at unit
      exact Bool.noConfusion unit
    rw [same] at frame ⊢
    exact ⟨frame, fun i => (if_neg (none i)).symm, fun q i => (if_neg (none i)).symm⟩
  | false =>
    exact ⟨frame, fun i => by simp only [State.loseUnit_holding ok p hu, List.mem_singleton],
      fun q i => by simp only [State.loseUnit_record ok p q hu, List.mem_singleton]⟩

namespace UnitsLost

variable {s t t' : State} {p : Port} {u : InputNo} {units : List InputNo}

/-- The units still to be handled are as before the first was. -/
theorem trans (first : UnitsLost s p [u] t) (hu : u ∉ units) (rest : UnitsLost t p units t') :
    UnitsLost s p (u :: units) t' := by
  have unit (i : InputNo) : s.unitOf (s.unitOf i) = s.unitOf i := State.unitOf_eq_self (s.unitOf_isUnit i)
  have stands {i : InputNo} (later : s.unitOf i ≠ u) : t.holding i = s.holding i := by
    rw [first.holding, if_neg (by simpa using later)]
  have others {i : InputNo} (later : s.unitOf i ≠ u) :
      t.lostHolding p i = s.lostHolding p i ∧ ∀ q, t.lostRecord p q i = s.lostRecord p q i := by
    have holding : t.holding (s.unitOf i) = s.holding (s.unitOf i) := stands (by rwa [unit])
    have record (q : Port) : t.record q i = s.record q i := by
      rw [first.record, if_neg (by simpa using later)]
    simp only [State.lostHolding, State.lostRecord, first.frame.unitOf, first.frame.effective, holding, stands later,
      record, implies_true, and_self]
  refine ⟨first.frame.trans rest.frame, fun i => ?_, fun q i => ?_⟩
  · rw [rest.holding, first.frame.unitOf]
    by_cases own : s.unitOf i = u
    · simp [first.holding, own, hu]
    · simp [stands own, (others own).1, own]
  · rw [rest.record, first.frame.unitOf]
    by_cases own : s.unitOf i = u
    · simp [first.record, own, hu]
    · simp [first.record, (others own).2, own]

end UnitsLost

theorem unitsLost_foldl {s : State} (ok : holdingsOk s) (p : Port) {units : List InputNo} (distinct : units.Nodup) :
    UnitsLost s p units (units.foldl (fun t u => t.loseUnit p u) s) := by
  induction units generalizing s with
  | nil => exact ⟨.refl s, fun i => by simp, fun q i => by simp⟩
  | cons u units ih =>
    obtain ⟨hu, distinct⟩ := List.nodup_cons.mp distinct
    exact (unitsLost_loseUnit ok p u).trans hu (ih (loses_loseUnit ok p u).holdings distinct)

theorem unitsLost_loseHoldings {s : State} (ok : holdingsOk s) (p : Port) :
    UnitsLost s p allInputs (s.loseHoldings p) := unitsLost_foldl ok p (List.nodup_finRange 32)

/-! ### The loss of a port -/

theorem exec_graceExpiry {s : State} {p : Port} (running : s.phase = .running)
    (detached : (s.port p).attach = .detached) (timer : (s.port p).graceTimer ≠ none) :
    exec (.graceExpiry p) s = .next (s.losePort p) := by
  refine congrArg Host.Outcome.next ((State.whenRunning_running _ running).trans (if_pos ⟨detached, ?_⟩))
  exact Option.isSome_iff_ne_none.mpr timer

theorem State.lostBeforeClock_eq {s : State} (ok : holdingsOk s) (p : Port) :
    s.lostBeforeClock p = { s with
      arbiter := ((s.setPort p (s.port p).lose).loseHoldings p).arbiter
      links := s.links.put p (lostLink (s.port p))
      maps := s.maps.put p { s.mapsOf p with draft := (s.mapsOf p).live, commitPending := false }
      watches := s.watches.put p (.fill fun _ => Watch.reset) } := by
  have frame := (State.loses_loseHoldings (s := s.setPort p (s.port p).lose) ok p).frame.eq
  rw [State.lostBeforeClock]
  generalize (s.setPort p (s.port p).lose).loseHoldings p = t at frame ⊢
  exact congrArg (fun t : State => (t.loseMaps p).loseWatches p) frame

/-- A port that is the reference in HOLDOVER at most, and whose FACTORY is not awaited, is lost: the units' holdings and
records apart, block by block. -/
theorem State.losePort_detached {s : State} {p : Port} (ok : holdingsOk s) (other : s.store.factoryPort ≠ some p)
    (acquire : s.clock.state ≠ .acquire p) (locked : s.clock.state ≠ .locked p) :
    s.losePort p = { s with
      arbiter := ((s.setPort p (s.port p).lose).loseHoldings p).arbiter
      links := s.links.put p (lostLink (s.port p))
      maps := s.maps.put p { s.mapsOf p with draft := (s.mapsOf p).live, commitPending := false }
      watches := s.watches.put p (.fill fun _ => Watch.reset)
      clock := if s.clock.state = .holdover p then { s.clock with relockRun := [], predecessor := none }
        else s.clock } := by
  have clock (first : Option Port) : s.clock.detached p first =
      if s.clock.state = .holdover p then { s.clock with relockRun := [], predecessor := none } else s.clock := by
    rw [Clock.detached_eq]
    cases state : s.clock.state <;> simp_all
  rw [State.losePort_eq, if_neg other, State.clockDetached_eq, State.lostBeforeClock_eq ok]
  dsimp only
  rw [clock]

end Sys2Proof.Machine

namespace Sys2Proof.Proofs

open Sys2Proof.Machine Sys2Proof.Safety Sys2Proof.Claims

/-- Settles O39: each block's loss handling, the arbiter's unit by unit. -/
theorem graceExpiryLosesThePort : Obligations.GraceExpiryLosesThePort := by
  intro s p running detached timer other acquire locked ok
  have lost := unitsLost_loseHoldings (s := s.setPort p (s.port p).lose) ok p
  refine ⟨_, exec_graceExpiry running detached timer, ?_⟩
  rw [State.losePort_detached ok other acquire locked]
  generalize (s.setPort p (s.port p).lose).loseHoldings p = t at lost ⊢
  refine ⟨rfl, ⟨lost.frame.linkedVec, lost.frame.handed⟩, rfl, rfl, rfl, rfl, fun i => ⟨?_, fun q => ?_⟩⟩
  · exact (lost.holding i).trans (if_pos (mem_allInputs _))
  · exact (lost.record q i).trans (if_pos (mem_allInputs _))

end Sys2Proof.Proofs
end

section
/-! The statements on WATCH and WATCH_CLEAR (R157, R158, R162) and on the evaluation of the watches at a cycle end (R159
to R161). -/

namespace Sys2Proof.Machine

open Sys2Proof.Claims

/-! ### The operands of WATCH (9.2, R158) -/

theorem watchTarget_eq_some {c : Byte} {w : WatchNo} (h : c.toNat = w.val) : watchTarget c = some w := by
  simp only [watchTarget, h, w.isLt, dif_pos]

theorem watchTarget_target (w : WatchNo) : watchTarget (target w) = some w :=
  watchTarget_eq_some (by simp only [target, BitVec.toNat_ofNat]; omega)

/-- The high byte of a half as a number. -/
theorem Half.toNat_highByte (a : Half) : (a.extractLsb' 8 8).toNat = a.toNat / 256 := by
  have bound := a.isLt
  rw [BitVec.extractLsb'_toNat, Nat.shiftRight_eq_div_pow]
  omega

/-- A bit of the low byte of a half, found by division. -/
theorem Half.getLsbD_lowByte (a : Half) {k : Nat} (h : k < 8) :
    a.getLsbD k = decide (a.toNat % 256 / 2 ^ k % 2 = 1) := by
  rw [BitVec.getLsbD, ← Nat.testBit_eq_decide_div_mod_eq, show 256 = 2 ^ 8 from rfl, Nat.testBit_mod_two_pow,
    decide_eq_true h, Bool.true_and]

theorem watchInput_none {a : Half} (h : 31 < a.toNat / 256) : watchInput a = none := by
  have outside : ¬ (a.extractLsb' 8 8).toNat < 32 := by rw [Half.toNat_highByte]; omega
  rw [watchInput, inputTarget, dif_neg outside]

theorem watchInput_some {a : Half} {i : InputNo} (h : a.toNat / 256 = i.val) : watchInput a = some i := by
  simp only [watchInput, inputTarget, Half.toNat_highByte, h, i.isLt, dif_pos]

/-- The watch of an accepted WATCH, its options as the low byte's bits and its threshold clamped. -/
theorem writtenWatch_eq (i : InputNo) (a b : Half) :
    writtenWatch i a b =
      { input := i
        mask :=
          { less := a.toNat % 256 % 2 = 1, equal := a.toNat % 256 / 2 % 2 = 1,
            greater := a.toNat % 256 / 4 % 2 = 1, void := a.toNat % 256 / 8 % 2 = 1 }
        latch := a.toNat % 256 / 16 % 2 = 1
        strict := a.toNat % 256 / 32 % 2 = 1
        threshold := max (-160) (min 0 b.toInt)
        level := 8 * coefficient (max (-160) (min 0 b.toInt))
        condition := false
        latched := false
        fault := false } := by
  have bit (k : Nat) (h : k < 8) := Half.getLsbD_lowByte a h
  simp only [writtenWatch, watchMask, thresholdLevel, clamp_eq (show (-160 : Int) ≤ 0 by decide), bit 0 (by decide),
    bit 1 (by decide), bit 2 (by decide), bit 3 (by decide), bit 4 (by decide), bit 5 (by decide), Nat.reducePow,
    Nat.div_one]

/-! ### The decision of WATCH (R158) -/

theorem exec_watch_ready {s : State} {p : Port} (c : Byte) (a b : Half) (h : ready s p) :
    exec (.watch p c a b) s = .next ((decideWatch p c a b s).1.withLinks
      (answeredLinks s p ((decideWatch p c a b s).2.toResponse { kind := 13, target := c, a := a, b := b }))) :=
  congrArg Host.Outcome.next (State.whenRunning_request _ h)

theorem decideWatch_badTarget {a : Half} (s : State) (p : Port) (w : WatchNo) (b : Half) (h : 31 < a.toNat / 256) :
    decideWatch p (target w) a b s = (s, .badTarget) := by
  simp only [decideWatch, watchInput_none h, watchTarget_target]

theorem decideWatch_written {a : Half} {i : InputNo} (s : State) (p : Port) (w : WatchNo) (b : Half)
    (h : a.toNat / 256 = i.val) :
    decideWatch p (target w) a b s = (s.setWatch p w (writtenWatch i a b),
      { outcome := clampCode (-160) 0 b, value := max (-160) (min 0 b.toInt) }) := by
  have range : (-160 : Int) ≤ 0 := by decide
  simp only [decideWatch, watchInput_some h, watchTarget_target, clampedOutcome_eq_clampCode range, clamp_eq range]

/-! ### Clearing watches (R162) -/

/-- The latched and fault bits of the watches of `p` that `hit` names are cleared: the common shape of a WATCH_CLEAR on
one watch and on all. -/
def State.clearWatches (s : State) (p : Port) (hit : WatchNo → Prop) [DecidablePred hit] : State :=
  { s with watches := s.watches.put p (.fill fun w => if hit w then (s.watch p w).cleared else s.watch p w) }

theorem State.setWatch_cleared (s : State) (p : Port) (w : WatchNo) :
    s.setWatch p w (s.watch p w).cleared = s.clearWatches p (· = w) := by
  refine congrArg (fun x : Vector Watch 8 => { s with watches := s.watches.put p x }) (Vector.pick_ext fun j => ?_)
  rw [Vector.pick_put, Vector.pick_fill]
  split
  · next same => rw [same]
  · rfl

section

variable (s : State) (p : Port) (hit : WatchNo → Prop) [DecidablePred hit]

theorem State.clearWatches_watch (q : Port) (w : WatchNo) :
    (s.clearWatches p hit).watch q w = if q = p ∧ hit w then (s.watch q w).cleared else s.watch q w := by
  rw [State.clearWatches, State.watch, Vector.pick_put]
  by_cases own : q = p
  · simp only [own, if_true, true_and, Vector.pick_fill]
  · simp only [own, if_false, false_and, State.watch]

/-- A cleared watch has no fault; the others keep theirs. -/
theorem State.clearWatches_fault (w : WatchNo) :
    ((s.clearWatches p hit).watch p w).fault = true ↔ ¬ hit w ∧ (s.watch p w).fault = true := by
  rw [State.clearWatches_watch]
  by_cases cleared : hit w <;> simp [cleared, Watch.cleared]

end

/-- A mask as a number is the sum of the powers of its set bits. -/
theorem maskValue_eq_sum {n : Nat} (v : Vector Bool n) :
    maskValue v = ((List.finRange n).map fun i => if v.pick i = true then 2 ^ i.val else 0).sum := by
  have add (acc : Nat) (i : Fin n) : (if v.pick i then acc + 2 ^ i.val else acc) =
      acc + if v.pick i = true then 2 ^ i.val else 0 := by split <;> rfl
  simp only [maskValue, add, List.sum_eq_foldl, List.foldl_map]

theorem State.clearWatches_faultWord (s : State) (p : Port) (hit : WatchNo → Prop) [DecidablePred hit] :
    maskValue ((s.clearWatches p hit).faultWord p) = ((List.finRange 8).map fun w =>
      if ¬ hit w ∧ (s.watch p w).fault = true then 2 ^ w.val else 0).sum := by
  simp only [maskValue_eq_sum, State.faultWord, Vector.pick_fill, State.clearWatches_fault]

/-! ### The decision of WATCH_CLEAR (R162) -/

theorem exec_watchClear_ready {s : State} {p : Port} (c : Byte) (h : ready s p) :
    exec (.watchClear p c) s = .next ((decideWatchClear p c s).1.withLinks
      (answeredLinks s p ((decideWatchClear p c s).2.toResponse { kind := 14, target := c, a := 0, b := 0 }))) :=
  congrArg Host.Outcome.next (State.whenRunning_request _ h)

/-- Target 255 names every watch, a target below 8 its own; the value is the fault word after the clearing. -/
theorem decideWatchClear_done {c : Byte} (s : State) (p : Port) (h : c.toNat < 8 ∨ c = 255) :
    let t := s.clearWatches p fun w => c = 255 ∨ c.toNat = w.val
    decideWatchClear p c s = (t, { outcome := .done, value := (maskValue (t.faultWord p) : Nat) }) := by
  intro t
  by_cases all : c = 255
  · have every : { s with watches := s.watches.put p (.fill fun w => (s.watch p w).cleared) } = t := by
      simp only [t, State.clearWatches, all, true_or, if_true]
    simp only [decideWatchClear, all, if_true, every]
  · have low : c.toNat < 8 := h.resolve_right all
    have one : s.setWatch p ⟨c.toNat, low⟩ (s.watch p ⟨c.toNat, low⟩).cleared = t := by
      rw [State.setWatch_cleared]
      simp only [t, all, false_or, Fin.ext_iff, eq_comm]
    simp only [decideWatchClear, all, if_false, watchTarget_eq_some (w := ⟨c.toNat, low⟩) rfl, one]

/-! ### Evaluation (R157, R159 to R161) -/

theorem Watch.found_eq_relationHolds (x : Watch) (peak : Option Nat) : x.found peak = relationHolds x peak := by
  cases peak with
  | none => rfl
  | some n =>
    obtain below | equal | above := lt_trichotomy n x.level
    · simp [Watch.found, relationHolds, below, below.ne, below.not_gt]
    · simp [Watch.found, relationHolds, equal]
    · simp [Watch.found, relationHolds, above, above.ne', above.not_gt]

theorem Watch.evaluate_eq (x : Watch) (peak : Option Nat) :
    x.evaluate peak =
      if x.mask.less || x.mask.equal || x.mask.greater || x.mask.void then
        { x with
          condition := relationHolds x peak
          latched := x.latched || (x.latch && relationHolds x peak)
          fault := x.fault || (x.strict && decide (peak = none)) }
      else x := by
  have void : peak.isNone = decide (peak = none) := by cases peak <;> rfl
  simp only [Watch.evaluate, Watch.enabled, RelationMask.nonempty, Watch.found_eq_relationHolds, void]

theorem State.evaluateWatches_watch (s : State) (p : Port) (w : WatchNo) :
    s.evaluateWatches.watch p w = (s.watch p w).evaluate (s.input (s.watch p w).input).lastPeak := by
  simp only [State.evaluateWatches, State.watch, Vector.pick_fill]

@[simp] theorem State.evaluateWatches_input (s : State) (i : InputNo) : s.evaluateWatches.input i = s.input i := rfl

/-- The watches are evaluated last, on the peaks that the front end's work of the cycle end has found. -/
theorem State.endCycle_watch (s : State) (samples : CycleSamples) (p : Port) (w : WatchNo) :
    (s.endCycle samples).watch p w =
      (s.watch p w).evaluate ((s.endCycle samples).input (s.watch p w).input).lastPeak := by
  have kept : (((s.endFrontEnd samples).handRecords.takeSamples samples).setStickies).watch p w = s.watch p w := by
    simp only [State.watch, State.setStickies, State.takeSamples, State.handRecords, State.endFrontEnd]
  rw [State.endCycle, State.evaluateWatches_watch, State.evaluateWatches_input, kept]

theorem exec_cycleEnd {s : State} (samples : CycleSamples) (running : s.phase = .running) :
    exec (.cycleEnd samples) s = .next (s.endCycle samples) :=
  congrArg Host.Outcome.next (State.whenRunning_running _ running)

end Sys2Proof.Machine

namespace Sys2Proof.Proofs

open Sys2Proof.Machine Sys2Proof.Claims

/-- Settles O22: the decision refuses an input above 31, and otherwise puts the written watch. -/
theorem watchWritesEveryField : Obligations.WatchWritesEveryField := by
  intro s p w a b hr
  refine ⟨fun outside => ?_, fun i input => ?_⟩
  · rw [onlyAnswers, exec_watch_ready _ a b hr, decideWatch_badTarget s p w b outside]; rfl
  · rw [exec_watch_ready _ a b hr, decideWatch_written s p w b input, writtenWatch_eq]; rfl

/-- Settles O23: one watch or all, the decision clears the watches named and answers the fault word then left. -/
theorem watchClearClearsTheBits : Obligations.WatchClearClearsTheBits := by
  intro s p c hr named hit word
  have value : maskValue ((s.clearWatches p hit).faultWord p) = word := s.clearWatches_faultWord p hit
  refine ⟨_, exec_watchClear_ready c hr, ?_⟩
  rw [decideWatchClear_done s p named, ← value]
  exact ⟨rfl, s.clearWatches_watch p hit, rfl⟩

/-- Settles O49: the watches are evaluated on the peaks of the state the cycle end leaves. -/
theorem aCycleEndEvaluatesEveryWatch : Obligations.ACycleEndEvaluatesEveryWatch := by
  intro s samples running
  refine ⟨_, exec_cycleEnd samples running, fun p w => ?_⟩
  rw [State.endCycle_watch, Watch.evaluate_eq]

end Sys2Proof.Proofs
end

section
/-! SUPPORT and the statements on SETTING of RATE, WINDOW and SENIOR and on FACTORY (R168 to R170): the items' operands
and values as the statements write them, and the decisions. -/

namespace Sys2Proof.Machine

open Sys2Proof.Claims

/-! ### The items other than CLOCK_LIST (10.2) -/

/-- An item other than CLOCK_LIST, by its number. -/
structure SettingItem.Numbered (item : SettingItem) (n : Nat) : Prop where
  byTarget : settingItem (target n) = some item
  other : item ≠ .clockList
  value : ∀ x : Settings, x.value item = settingCode x n
  replaced : ∀ (x : Settings) (a : Half), x.replaced a item = settingOf x n a.toInt

theorem Settings.replaced_rate_eq (x : Settings) (a : Half) : x.replaced a .rate = settingOf x 0 a.toInt := by
  simp only [Settings.replaced, rateOperand]
  generalize a.toInt = n
  split
  · next h => subst h; rfl
  split
  · next h => subst h; rfl
  · unfold settingOf
    split <;> simp_all

theorem Settings.replaced_window_eq (x : Settings) (a : Half) : x.replaced a .window = settingOf x 2 a.toInt := by
  have number (n : Nat) (h : a.toInt = n) : a.toNat = n := by
    rw [BitVec.toInt_eq_toNat_cond] at h
    have := a.isLt
    split at h <;> omega
  simp only [Settings.replaced, windowOperand]
  split
  · next h =>
    rcases h with h | h | h | h
    · rw [number 2 h, h]; rfl
    · rw [number 4 h, h]; rfl
    · rw [number 8 h, h]; rfl
    · rw [number 16 h, h]; rfl
  · unfold settingOf
    split <;> simp_all

theorem Settings.replaced_senior_eq (x : Settings) (a : Half) : x.replaced a .senior = settingOf x 3 a.toInt := by
  have number : a.toNat < 4 → a.toInt = a.toNat := by
    rw [BitVec.toInt_eq_toNat_cond]; omega
  simp only [Settings.replaced, seniorOperand]
  split
  · next h => rw [h]; rfl
  split
  · next h =>
    rw [number h]
    generalize a.toNat = n at h
    interval_cases n <;> rfl
  · next none port =>
    have outside : a.toInt ≠ 0 ∧ a.toInt ≠ 1 ∧ a.toInt ≠ 2 ∧ a.toInt ≠ 3 := by
      rw [BitVec.toInt_eq_toNat_cond]; omega
    unfold settingOf
    split <;> simp_all

theorem numbered_rate : SettingItem.rate.Numbered 0 where
  byTarget := rfl
  other := SettingItem.noConfusion
  value x := by rcases x with ⟨_ | _, _, _, _⟩ <;> rfl
  replaced := Settings.replaced_rate_eq

theorem numbered_window : SettingItem.window.Numbered 2 where
  byTarget := rfl
  other := SettingItem.noConfusion
  value _ := rfl
  replaced := Settings.replaced_window_eq

theorem numbered_senior : SettingItem.senior.Numbered 3 where
  byTarget := rfl
  other := SettingItem.noConfusion
  value x := by rcases x with ⟨_, _, _, _ | _⟩ <;> rfl
  replaced := Settings.replaced_senior_eq

theorem exists_numbered {n : Nat} (h : n ∈ [0, 2, 3]) : ∃ item : SettingItem, item.Numbered n := by
  simp only [List.mem_cons, List.not_mem_nil, or_false] at h
  obtain rfl | rfl | rfl := h
  · exact ⟨_, numbered_rate⟩
  · exact ⟨_, numbered_window⟩
  · exact ⟨_, numbered_senior⟩

/-! ### The decision of SETTING (R168, R169) -/

section

variable {s : State} {a : Half} {item : SettingItem} {n : Nat} (named : item.Numbered n)

include named

theorem decideSetting_setupOnly (run : s.store.position = .run) :
    decideSetting (target n) a s = (s, { outcome := .setupOnly, value := settingCode s.store.settings n }) := by
  simp only [decideSetting, named.byTarget, run, if_true, named.value]

theorem decideSetting_badValue (setup : s.store.position = .setup)
    (bad : settingOf s.store.settings n a.toInt = none) :
    decideSetting (target n) a s = (s, { outcome := .badValue, value := settingCode s.store.settings n }) := by
  simp only [decideSetting, named.byTarget, setup, reduceCtorEq, if_false, named.replaced, bad, named.value]

theorem decideSetting_done {x : Settings} (setup : s.store.position = .setup)
    (good : settingOf s.store.settings n a.toInt = some x) :
    decideSetting (target n) a s =
      ({ s with store := settled s.store x }, { outcome := .done, value := settingCode x n }) := by
  simp only [decideSetting, named.byTarget, setup, reduceCtorEq, if_false, named.replaced, good, named.value,
    named.other, Store.putSettings_eq_settled]

end

/-! ### The decision of FACTORY (R168, R170) -/

theorem exec_factory_ready {s : State} {p : Port} (c : Byte) (h : ready s p) :
    exec (.factory p c) s = .next ((decideFactory p s).1.withLinks
      (answeredLinks s p ((decideFactory p s).2.toResponse { kind := 16, target := c, a := 0, b := 0 }))) :=
  congrArg Host.Outcome.next (State.whenRunning_request _ h)

theorem decideFactory_setupOnly {s : State} (p : Port) (run : s.store.position = .run) :
    decideFactory p s = (s, { outcome := .setupOnly }) := if_pos run

/-- The first accepted FACTORY is kept with its port. -/
theorem decideFactory_done {s : State} (p : Port) (setup : s.store.position = .setup) :
    decideFactory p s = (factoryBy s (if s.store.factoryPort = none then some p else s.store.factoryPort),
      { outcome := .done }) := by
  have first : s.store.factoryPort.or (some p) =
      if s.store.factoryPort = none then some p else s.store.factoryPort := by
    cases s.store.factoryPort <;> rfl
  rw [decideFactory, if_neg (by rw [setup]; exact SwitchPosition.noConfusion), first]

end Sys2Proof.Machine

namespace Sys2Proof.Proofs

open Sys2Proof.Machine Sys2Proof.Claims

/-- Settles O24: by the item, its operand is in the set where the decision replaces the value, and the store takes the
settings as the statement writes it. -/
theorem settingReplacesTheStoredValue : Obligations.SettingReplacesTheStoredValue := by
  intro s p n a hr listed answer
  obtain ⟨item, named⟩ := exists_numbered listed
  refine ⟨fun run => ?_, fun setup bad => ?_, fun setup x good => ?_⟩
  · exact onlyAnswers_setting hr (decideSetting_setupOnly named run)
  · exact onlyAnswers_setting hr (decideSetting_badValue named setup bad)
  · rw [exec_setting_ready _ a hr, decideSetting_done named setup good]
    rfl

/-- Settles O26: the decision reads the switch, and in SETUP keeps the port where none is kept. -/
theorem factoryIsAcceptedInSetup : Obligations.FactoryIsAcceptedInSetup := by
  intro s p c hr
  refine ⟨fun run => ?_, fun setup => ?_⟩
  · rw [onlyAnswers, exec_factory_ready c hr, decideFactory_setupOnly p run]
    rfl
  · rw [exec_factory_ready c hr, decideFactory_done p setup]
    rfl

end Sys2Proof.Proofs
end

section
/-! The statements on the deferred write and the write of the settings record (R169, R171, R172), and on the key switch
and the loss of power (R168, R172). -/

namespace Sys2Proof.Machine

/-! ### The timers of the deferred write (R172) -/

theorem exec_quietTimerExpiry {s : State} (running : s.phase = .running) :
    exec .quietTimerExpiry s = .next
      (if s.store.quietTimer ≠ none ∧ s.store.frontEndWrite = none then { s with store := s.store.beginWrite }
        else s) := by
  simp only [← Option.isSome_iff_ne_none]
  exact congrArg Host.Outcome.next (State.whenRunning_running _ running)

theorem exec_ceilingTimerExpiry {s : State} (running : s.phase = .running) :
    exec .ceilingTimerExpiry s = .next
      (if s.store.ceilingTimer ≠ none ∧ s.store.frontEndWrite = none then { s with store := s.store.beginWrite }
        else s) := by
  simp only [← Option.isSome_iff_ne_none]
  exact congrArg Host.Outcome.next (State.whenRunning_running _ running)

/-! ### A write completes while the part runs (R169, R172) -/

theorem exec_frontEndWriteComplete {s : State} {w : FrontEndWrite} (running : s.phase = .running)
    (write : s.store.frontEndWrite = some w) :
    exec .frontEndWriteComplete s = .next { s with store := s.store.frontEndWritten w } := by
  show execFrontEndWriteComplete s = _
  simp only [execFrontEndWriteComplete, write, running]

theorem exec_settingsWriteComplete {s : State} {w : SettingsWrite} (running : s.phase = .running)
    (write : s.store.settingsWrite = some w) :
    exec .settingsWriteComplete s = .next { s with store := s.store.settingsWritten w } := by
  show execSettingsWriteComplete s = _
  simp only [execSettingsWriteComplete, write, running]

end Sys2Proof.Machine

namespace Sys2Proof.Proofs

open Sys2Proof.Machine Sys2Proof.Claims

/-- Settles O52: a timer begins the write where it runs and no write does, and a completion replaces the copy. -/
theorem writesBeginAndComplete : Obligations.WritesBeginAndComplete := by
  intro s running st begun
  refine ⟨fun idle timer => ?_, fun idle timer => ?_, fun writing => ⟨?_, ?_⟩, fun w write => ?_, fun w write => ?_⟩
  · rw [exec_quietTimerExpiry running, if_pos ⟨timer, idle⟩]; rfl
  · rw [exec_ceilingTimerExpiry running, if_pos ⟨timer, idle⟩]; rfl
  · rw [exec_quietTimerExpiry running, if_neg fun begins => writing begins.2]
  · rw [exec_ceilingTimerExpiry running, if_neg fun begins => writing begins.2]
  · exact exec_frontEndWriteComplete running write
  · exact exec_settingsWriteComplete running write

/-- Settles O55: neither command has a condition, so each is its meaning written out. -/
theorem theSwitchTurnsAndPowerIsLost : Obligations.TheSwitchTurnsAndPowerIsLost :=
  fun _ _ => ⟨rfl, rfl⟩

end Sys2Proof.Proofs
end

section
/-! SUPPORT and the statement on the restart after FACTORY (R170, R173): a cycle start and a loss act alike with and
without an accepted FACTORY, the writes complete one by one, and the part starts from the records in storage. -/

namespace Sys2Proof.Machine

open Sys2Proof.Safety Sys2Proof.Claims

/-! ### A cycle start with and without the FACTORY -/

theorem factoryBy_self {s : State} {x : Option Port} (h : s.store.factoryPort = x) : factoryBy s x = s := by
  subst h; rfl

theorem factoryBy_factoryBy (s : State) (x y : Option Port) : factoryBy (factoryBy s x) y = factoryBy s y := rfl

/-- A change is noted beside an accepted FACTORY. -/
theorem noted_factoryPort (st : Store) (edited : StoredFrontEnd) (x : Option Port) :
    noted { st with factoryPort := x } edited = { noted st edited with factoryPort := x } := by
  rw [← Store.noteChange_eq_noted, ← Store.noteChange_eq_noted]; rfl

theorem broughtIn_factoryBy (s : State) (x : Option Port) :
    broughtIn (factoryBy s x) = factoryBy (broughtIn s) x := by
  have store (c : Prop) [Decidable c] (edited : StoredFrontEnd) :
      (if c then noted { s.store with factoryPort := x } edited else { s.store with factoryPort := x }) =
        { (if c then noted s.store edited else s.store) with factoryPort := x } := by
    split
    · exact noted_factoryPort _ _ _
    · rfl
  exact congrArg (fun st : Store => { broughtIn s with store := st })
    (store (∃ i, (s.input i).padRequested ≠ (s.input i).padInEffect ∨
      (s.input i).modeRequested ≠ (s.input i).modeInEffect) _)

/-- With no request waiting, the downlinks report the state that the blocks' work leaves, and the restart follows where
the accepted FACTORY's response leaves. -/
theorem State.startCycle_noneWaiting {s : State} (quiet : ∀ p, (s.port p).requests = []) (schedule : List Port) :
    s.startCycle schedule =
      let t := sentFrom s (broughtIn s)
      if t.factoryLeaves (.fill fun p => (s.port p).responses.take 4) then restarted t else t := by
  have waiting (p : Port) : (s.freed.port p).requests = [] := by rw [State.freed_port]; exact quiet p
  have sent := State.sendDownlinks_clearReported (s := s) s.freed_clipBefore fun p => by
    rw [waiting, quiet, List.drop_nil]
  rw [s.startBlocks_leave_aside] at sent
  rw [State.startCycle_eq, State.takeWaiting_quiet waiting]
  dsimp only
  rw [sent, State.beginRestart_eq]

/-- The blocks' work and the downlinks do not see the FACTORY. -/
theorem sentFrom_factoryBy (s : State) (x : Option Port) :
    sentFrom (factoryBy s x) (broughtIn (factoryBy s x)) = factoryBy (sentFrom s (broughtIn s)) x := by
  rw [broughtIn_factoryBy]; rfl

theorem State.startCycle_withoutFactory {s : State} (quiet : ∀ p, (s.port p).requests = []) (schedule : List Port) :
    (factoryBy s none).startCycle schedule = factoryBy (sentFrom s (broughtIn s)) none := by
  rw [State.startCycle_noneWaiting (s := factoryBy s none) quiet, sentFrom_factoryBy]
  exact if_neg Bool.false_ne_true

/-- A cycle start at which the accepted FACTORY's response leaves is one without the FACTORY, and then the restart. -/
theorem State.startCycle_restarts {s : State} {p : Port} (accepted : s.store.factoryPort = some p)
    (quiet : ∀ q, (s.port q).requests = [])
    (leaves : ∃ r ∈ (s.port p).responses.take 4, r.kind = 16 ∧ r.outcome = .done) (schedule : List Port) :
    s.startCycle schedule = restarted (factoryBy ((factoryBy s none).startCycle schedule) (some p)) := by
  have kept : (broughtIn s).store.factoryPort = some p := by
    have same := congrArg (fun t : State => t.store.factoryPort) (broughtIn_factoryBy s (some p))
    rwa [factoryBy_self accepted] at same
  rw [State.startCycle_withoutFactory quiet, State.startCycle_noneWaiting quiet]
  refine (if_pos ((factoryLeaves_sentFrom s (broughtIn s)).mpr ⟨p, kept, leaves⟩)).trans ?_
  exact congrArg restarted (factoryBy_self (s := sentFrom s (broughtIn s)) kept).symm

/-! ### A loss with and without the FACTORY -/

/-- A fold of operations that do not see the FACTORY does not see it either. -/
theorem foldl_factoryBy {α : Type} {x : Option Port} {f : State → α → State}
    (hf : ∀ s a, f (factoryBy s x) a = factoryBy (f s a) x) (l : List α) (s : State) :
    l.foldl f (factoryBy s x) = factoryBy (l.foldl f s) x := by
  induction l generalizing s with
  | nil => rfl
  | cons a l ih => rw [List.foldl_cons, hf, ih]; rfl

section

variable (s : State) (x : Option Port)

theorem State.release_factoryBy (u : InputNo) (h : Port) :
    (factoryBy s x).release u h = factoryBy (s.release u h) x := foldl_factoryBy (fun _ _ => rfl) _ s

theorem State.grant_factoryBy (u : InputNo) (q : Port) : (factoryBy s x).grant u q = factoryBy (s.grant u q) x :=
  foldl_factoryBy (fun _ _ => rfl) _ (s.setQueue u ((s.holding u).queue.erase q))

theorem State.passOn_factoryBy (u : InputNo) (h : Port) :
    (factoryBy s x).passOn u h = factoryBy (s.passOn u h) x := by
  have queue : ((factoryBy (s.release u h) x).holding u).queue = ((s.release u h).holding u).queue := rfl
  simp only [State.passOn]
  rw [State.release_factoryBy, queue]
  split
  · rfl
  · exact State.grant_factoryBy _ x u _

theorem State.loseUnit_factoryBy (p : Port) (u : InputNo) :
    (factoryBy s x).loseUnit p u = factoryBy (s.loseUnit p u) x := by
  have odd : (factoryBy s x).isLinkedOdd u = s.isLinkedOdd u := rfl
  have holding : (factoryBy s x).holding u = s.holding u := rfl
  simp only [State.loseUnit, odd, holding, State.passOn_factoryBy]
  split
  · rfl
  split <;> rfl

theorem State.loseHoldings_factoryBy (p : Port) :
    (factoryBy s x).loseHoldings p = factoryBy (s.loseHoldings p) x := by
  unfold State.loseHoldings
  exact foldl_factoryBy (fun s u => s.loseUnit_factoryBy x p u) allInputs s

theorem State.lostBeforeClock_factoryBy (p : Port) :
    (factoryBy s x).lostBeforeClock p = factoryBy (s.lostBeforeClock p) x := by
  have lost : (factoryBy s x).setPort p ((factoryBy s x).port p).lose =
      factoryBy (s.setPort p (s.port p).lose) x := rfl
  rw [State.lostBeforeClock, State.lostBeforeClock, lost, State.loseHoldings_factoryBy]
  generalize (s.setPort p (s.port p).lose).loseHoldings p = t
  rfl

theorem State.clockDetached_factoryBy (p : Port) :
    (factoryBy s x).clockDetached p = factoryBy (s.clockDetached p) x := by
  rw [State.clockDetached_eq, State.clockDetached_eq]; rfl

end

/-- The loss of the port whose FACTORY was accepted is one without the FACTORY, and then the restart. -/
theorem State.losePort_restarts {s : State} {p : Port} (accepted : s.store.factoryPort = some p) :
    s.losePort p = restarted (factoryBy ((factoryBy s none).losePort p) (some p)) := by
  have lost (x : Option Port) : ((factoryBy s x).lostBeforeClock p).clockDetached p =
      factoryBy ((s.lostBeforeClock p).clockDetached p) x := by
    rw [State.lostBeforeClock_factoryBy, State.clockDetached_factoryBy]
  have whole := lost (some p)
  rw [factoryBy_self accepted] at whole
  have without : (factoryBy s none).losePort p = factoryBy ((s.lostBeforeClock p).clockDetached p) none := by
    rw [State.losePort_eq, lost]
    exact if_neg (Option.some_ne_none p).symm
  rw [without, factoryBy_factoryBy, ← whole, State.losePort_eq, if_pos accepted, State.beginRestart_eq]

/-! ### The writes of the restart (R170) -/

theorem State.writeDefaults_eq (s : State) :
    s.writeDefaults =
      if s.store.settingsWrite = none ∧ s.store.frontEndWrite = none then
        { s with
          phase := .restartSettings
          store := { s.store with settings := defaultSettings, frontEnd := defaultFrontEnd } }
      else s := by
  have writing : s.store.writing = true ↔ ¬ (s.store.settingsWrite = none ∧ s.store.frontEndWrite = none) := by
    simp only [Store.writing, Bool.or_eq_true, Option.isSome_iff_ne_none, not_and_or, ne_eq]
  rw [← ite_not]
  exact if_congr writing rfl rfl

theorem exec_settingsWriteComplete_restart {s : State} {w : SettingsWrite} (waits : s.phase = .restartWaits)
    (write : s.store.settingsWrite = some w) :
    exec .settingsWriteComplete s = .next (State.writeDefaults { s with store := { s.store with
      settingsCopy := { record := w.record, sound := true }, settingsWrite := none } }) := by
  show execSettingsWriteComplete s = _
  simp only [execSettingsWriteComplete, write, waits, Store.settingsWritten]

theorem exec_frontEndWriteComplete_restart {s : State} {w : FrontEndWrite} (waits : s.phase = .restartWaits)
    (write : s.store.frontEndWrite = some w) :
    exec .frontEndWriteComplete s = .next (State.writeDefaults { s with store := s.store.frontEndWritten w }) := by
  show execFrontEndWriteComplete s = _
  simp only [execFrontEndWriteComplete, write, waits]

theorem exec_factoryWriteComplete_settings {s : State} (first : s.phase = .restartSettings) :
    exec .factoryWriteComplete s = .next { s with
      phase := .restartFrontEnd
      store := { s.store with settingsCopy := { record := s.store.settings, sound := true } } } := by
  show execFactoryWriteComplete s = _
  simp only [execFactoryWriteComplete, first]

theorem exec_factoryWriteComplete_frontEnd {s : State} (second : s.phase = .restartFrontEnd) :
    exec .factoryWriteComplete s = .next (State.startUp
      { s with store := { s.store with frontEndCopy := { record := s.store.frontEnd, sound := true } } }) := by
  show execFactoryWriteComplete s = _
  simp only [execFactoryWriteComplete, second]

/-! ### The start (R24, R83, R173) -/

/-- The front-end record in storage, or the defaults where its CRC fails, before linked pairs are conformed (R173). -/
def FrontEndCopy.loaded (c : FrontEndCopy) : StoredFrontEnd := if c.sound then c.record else .defaults

theorem FrontEndCopy.load_eq (c : FrontEndCopy) : c.load = c.loaded.conform := rfl

theorem StoredFrontEnd.conform_pick (r : StoredFrontEnd) (i : InputNo) :
    r.conform.steps.pick i = r.steps.pick (storedOf r i) ∧ r.conform.pads.pick i = r.pads.pick (storedOf r i) ∧
    r.conform.modes.pick i = r.modes.pick (storedOf r i) :=
  ⟨Vector.pick_fill _ _, Vector.pick_fill _ _, Vector.pick_fill _ _⟩

theorem StoredFrontEnd.conform_phantom (r : StoredFrontEnd) : r.conform.phantom = r.phantom := by
  simp only [StoredFrontEnd.conform]

theorem StoredFrontEnd.conform_linked (r : StoredFrontEnd) : r.conform.linked = r.linked := by
  simp only [StoredFrontEnd.conform]

theorem State.startUp_frontEndRecord (s : State) : s.startUp.store.frontEnd = s.store.frontEndCopy.loaded.conform := rfl

theorem State.startUp_linkStates (s : State) : s.startUp.arbiter.linked = s.store.frontEndCopy.loaded.linked := by
  simp only [State.startUp, Store.start, FrontEndCopy.load_eq, StoredFrontEnd.conform_linked]

theorem State.startUp_group (s : State) (g : GroupNo) :
    s.startUp.group g = startGroup s.store.frontEndCopy.load g (s.group g).sense := Vector.pick_fill _ _

theorem State.startUp_holding (s : State) (i : InputNo) : s.startUp.holding i = { holder := none, queue := [] } :=
  Vector.pick_fill _ _

theorem State.startUp_record (s : State) (p : Port) (i : InputNo) :
    s.startUp.record p i = startRecord s.store.frontEndCopy.load i := by
  simp only [State.startUp, State.record, Vector.pick_fill, Store.start]

theorem State.startUp_ovl (s : State) (p : Port) (i : InputNo) : (s.startUp.frontEnd.ovl.pick p).pick i = false := by
  simp only [State.startUp, Vector.pick_fill]

theorem State.startUp_clip (s : State) (p : Port) (i : InputNo) : (s.startUp.level.clip.pick p).pick i = false := by
  simp only [State.startUp, State.reset, Vector.pick_fill]

theorem State.startUp_void (s : State) (p : Port) (i : InputNo) : (s.startUp.level.void.pick p).pick i = false := by
  simp only [State.startUp, State.reset, Vector.pick_fill]

theorem State.startUp_rounding (s : State) (p : Port) :
    s.startUp.level.requested.pick p = .nearest ∧ s.startUp.level.inEffect.pick p = .nearest := by
  simp only [State.startUp, State.reset, Vector.pick_fill, and_self]

theorem State.startUp_mapsOf (s : State) (p : Port) : s.startUp.mapsOf p = PortMaps.reset := Vector.pick_fill _ _

theorem State.startUp_port (s : State) (p : Port) : s.startUp.port p = PortLink.reset := Vector.pick_fill _ _

theorem State.startUp_watch (s : State) (p : Port) (w : WatchNo) : s.startUp.watch p w = Watch.reset := by
  simp only [State.startUp, State.reset, State.watch, Vector.pick_fill]

theorem startGroup_eq (r : StoredFrontEnd) (g : GroupNo) (sense : Sense) :
    startGroup r g sense =
      { state := if r.phantom.pick g then .charging else .off
        sense := sense
        chargeTimer := if r.phantom.pick g then some (Config.ms 600) else none
        dischargeTimer := none, lowSenseTimer := none, faultVoidTimer := none } := by
  unfold startGroup
  split <;> rfl

/-- The part starts with every block's start values, from the records in storage or their defaults. -/
theorem State.startUp_startsFrom (s : State) :
    startsFrom s s.startUp s.store.settingsCopy.load s.store.frontEndCopy.loaded := by
  have phantom : s.startUp.store.frontEnd.phantom = s.store.frontEndCopy.loaded.phantom := by
    rw [State.startUp_frontEndRecord, StoredFrontEnd.conform_phantom]
  have linked : s.startUp.store.frontEnd.linked = s.store.frontEndCopy.loaded.linked := by
    rw [State.startUp_frontEndRecord, StoredFrontEnd.conform_linked]
  refine ⟨rfl, rfl, rfl, fun i => ?_, fun g => ?_, s.startUp_linkStates, fun p => ?_, rfl, rfl, ?_, rfl, rfl, rfl,
    rfl, rfl, rfl, rfl, rfl, rfl, phantom, linked, rfl, rfl, rfl, rfl, rfl, rfl, rfl⟩
  · intro step pad mode e
    obtain ⟨steps, pads, modes⟩ : s.store.frontEndCopy.loaded.conform.steps.pick i = step ∧
        s.store.frontEndCopy.loaded.conform.pads.pick i = pad ∧
        s.store.frontEndCopy.loaded.conform.modes.pick i = mode := StoredFrontEnd.conform_pick _ i
    have gain : effectiveGain step pad = e := rfl
    simp only [State.startUp_input, State.startUp_holding, State.startUp_record, State.startUp_ovl, State.startUp_clip,
      State.startUp_void, FrontEndCopy.load_eq, State.startUp_frontEndRecord, startInput, startRecord, steps, pads,
      modes, gain, Preamp.reset, CompRecord.reset, and_self, implies_true]
  · rw [State.startUp_group, startGroup_eq, FrontEndCopy.load_eq, StoredFrontEnd.conform_phantom]
  · obtain ⟨requested, inEffect⟩ := s.startUp_rounding p
    exact ⟨requested, inEffect, s.startUp_mapsOf p, s.startUp_port p, s.startUp_watch p⟩
  · exact congrArg (fun n : Nat => (n : Rat)) (nominalCycle_eq _)

end Sys2Proof.Machine

namespace Sys2Proof.Proofs

open Sys2Proof.Machine Sys2Proof.Claims

/-- Settles O54: the event in which the restart begins is the one without the FACTORY, then the restart; each completion
either leaves another write to wait for or lets the defaults be written; and the start loads what was written. -/
theorem factoryRestartsFromTheDefaults : Obligations.FactoryRestartsFromTheDefaults := by
  intro s p schedule
  refine ⟨fun running accepted quiet leaves => ?_, fun running accepted detached timer => ?_,
    fun waits w write other => ?_, fun waits w write other => ?_, fun waits w write idle => ?_,
    fun waits w write idle => ?_, exec_factoryWriteComplete_settings, fun second frontEnd settings => ?_⟩
  · refine ⟨_, congrArg Host.Outcome.next (State.whenRunning_running _ running), ?_⟩
    rw [← State.startCycle_restarts accepted quiet leaves]
    exact congrArg Host.Outcome.next (State.whenRunning_running _ running)
  · refine ⟨_, exec_graceExpiry (s := factoryBy s none) running detached timer, ?_⟩
    rw [← State.losePort_restarts accepted]
    exact exec_graceExpiry running detached timer
  · rw [exec_settingsWriteComplete_restart waits write, State.writeDefaults_eq, if_neg fun idle => other idle.2]
  · rw [exec_frontEndWriteComplete_restart waits write, State.writeDefaults_eq, if_neg fun idle => other idle.1]
    rfl
  · rw [exec_settingsWriteComplete_restart waits write, State.writeDefaults_eq, if_pos ⟨rfl, idle⟩]
  · rw [exec_frontEndWriteComplete_restart waits write, State.writeDefaults_eq, if_pos ⟨idle, rfl⟩]
    rfl
  · refine ⟨_, exec_factoryWriteComplete_frontEnd second, ?_⟩
    rw [frontEnd]
    have starts := State.startUp_startsFrom
      { s with store := { s.store with frontEndCopy := { record := defaultFrontEnd, sound := true } } }
    rw [settings] at starts
    exact ⟨starts, settings, rfl⟩

end Sys2Proof.Proofs
end

section
/-! SUPPORT and the statement that every command answers a next state and leaves the queue of waiting commands as it is:
no operation of any block touches that queue, so no decision of a request and no event does. -/

namespace Sys2Proof.Machine

variable (s : State) (p : Port)

/-! ### Changes of one block, and folds -/

theorem SameButHands.pending {s t : State} (h : SameButHands s t) : t.pending = s.pending := congrArg (·.pending) h

theorem ClockOnly.pending {s t : State} (h : ClockOnly s t) : t.pending = s.pending := by rw [h]

@[simp] theorem foldl_pending {α : Type} {f : State → α → State} (hf : ∀ s a, (f s a).pending = s.pending)
    (l : List α) (s : State) : (l.foldl f s).pending = s.pending := by
  induction l generalizing s with
  | nil => rfl
  | cons a l ih => exact (ih (f s a)).trans (hf s a)

/-! ### The front end (chapter 1) -/

@[simp] theorem State.setGainTarget_pending (i : InputNo) (n : Nat) : (s.setGainTarget i n).pending = s.pending := by
  unfold State.setGainTarget; split <;> rfl

@[simp] theorem State.reachInput_pending (i : InputNo) : (s.reachInput i).pending = s.pending := by
  unfold State.reachInput; split <;> rfl

@[simp] theorem State.changeGroup_pending (g : GroupNo) (x : PhantomGroup) :
    (s.changeGroup g x).pending = s.pending := by
  have reached : (if x.state.live then (groupInputs g).foldl State.reachInput (s.setGroup g x)
      else s.setGroup g x).pending = s.pending := by
    split
    · exact foldl_pending State.reachInput_pending _ _
    · rfl
  unfold State.changeGroup
  dsimp only
  split <;> exact reached

/-! ### The gain arbiter (chapters 2 to 4) -/

@[simp] theorem State.setQueue_pending (u : InputNo) (queue : List Port) : (s.setQueue u queue).pending = s.pending :=
  rfl

@[simp] theorem State.withdraw_pending (u : InputNo) : (s.withdraw u p).pending = s.pending := rfl

@[simp] theorem State.release_pending (u : InputNo) : (s.release u p).pending = s.pending :=
  (s.handed_release u p).frame.pending

@[simp] theorem State.grant_pending (u : InputNo) : (s.grant u p).pending = s.pending :=
  (s.handed_grant u p).frame.pending

@[simp] theorem State.displace_pending (u : InputNo) (h : Port) : (s.displace u h p).pending = s.pending :=
  (State.grant_pending _ p u).trans (s.release_pending h u)

@[simp] theorem State.passOn_pending (u : InputNo) : (s.passOn u p).pending = s.pending := by
  unfold State.passOn
  dsimp only
  split
  · exact s.release_pending p u
  · exact (State.grant_pending _ _ u).trans (s.release_pending p u)

theorem State.loseUnit_pending (u : InputNo) : (s.loseUnit p u).pending = s.pending := by
  unfold State.loseUnit
  split
  · rfl
  · dsimp only
    split
    · exact s.passOn_pending p u
    · rfl

@[simp] theorem State.linkPair_pending (k : PairNo) : (s.linkPair k p).pending = s.pending := by
  have copied (t : State) : (t.copyRecords k p).pending = t.pending := foldl_pending (fun _ _ => rfl) allPorts t
  exact (copied _).trans (State.setGainTarget_pending _ (oddOf k) _)

@[simp] theorem State.unlinkPair_pending (k : PairNo) : (s.unlinkPair k).pending = s.pending := rfl

/-! ### The decisions of requests (R154, R155) -/

@[simp] theorem State.writeDraft_pending (k : SlotNo) (e : Option SlotEntry) :
    (s.writeDraft p k e).pending = s.pending := rfl

@[simp] theorem State.clockListWritten_pending : s.clockListWritten.pending = s.pending :=
  (clockOnly_clockListWritten s).pending

theorem decideClaim_keeps_pending (c : Byte) : (decideClaim p c s).1.pending = s.pending := by
  simp only [decideClaim]
  repeat' split
  all_goals simp

theorem decideYield_keeps_pending (c : Byte) : (decideYield p c s).1.pending = s.pending := by
  simp only [decideYield]
  repeat' split
  all_goals simp

theorem decideGain_keeps_pending (c : Byte) (a : Half) : (decideGain p c a s).1.pending = s.pending := by
  simp only [decideGain]
  repeat' split
  all_goals simp

theorem decidePad_keeps_pending (c : Byte) (a : Half) : (decidePad p c a s).1.pending = s.pending := by
  have pads (on : Bool) (l : List InputNo) := foldl_pending (f := fun t i => t.requestPad i on) (fun _ _ => rfl) l s
  simp only [decidePad]
  repeat' split
  all_goals simp [pads]

theorem decideMode_keeps_pending (c : Byte) (a : Half) : (decideMode p c a s).1.pending = s.pending := by
  have modes (m : Mode) (l : List InputNo) := foldl_pending (f := fun t i => t.requestMode i m) (fun _ _ => rfl) l s
  simp only [decideMode]
  repeat' split
  all_goals simp [modes]

theorem decidePhantom_keeps_pending (c : Byte) (a : Half) : (decidePhantom p c a s).1.pending = s.pending := by
  simp only [decidePhantom]
  repeat' split
  all_goals simp

theorem decideTrim_keeps_pending (c : Byte) (a : Half) : (decideTrim p c a s).1.pending = s.pending := by
  have trims (v : Int) (l : List InputNo) := foldl_pending (f := fun t i => t.writeTrim p v i) (fun _ _ => rfl) l s
  simp only [decideTrim]
  repeat' split
  all_goals simp [trims]

theorem decideMute_keeps_pending (c : Byte) (a : Half) : (decideMute p c a s).1.pending = s.pending := by
  have mutes (on : Bool) (l : List InputNo) := foldl_pending (f := fun t i => t.writeMute p on i) (fun _ _ => rfl) l s
  simp only [decideMute]
  repeat' split
  all_goals simp [mutes]

theorem decideLink_keeps_pending (c : Byte) (a : Half) : (decideLink p c a s).1.pending = s.pending := by
  simp only [decideLink]
  repeat' split
  all_goals simp

theorem decideSlot_keeps_pending (c : Byte) (a b : Half) : (decideSlot p c a b s).1.pending = s.pending := by
  simp only [decideSlot]
  repeat' split
  all_goals simp

theorem decideCommit_keeps_pending : (decideCommit p s).1.pending = s.pending := by
  simp only [decideCommit]
  repeat' split
  all_goals simp

theorem decideRound_keeps_pending (a : Half) : (decideRound p a s).1.pending = s.pending := by
  unfold decideRound; split <;> rfl

theorem decideWatch_keeps_pending (c : Byte) (a b : Half) : (decideWatch p c a b s).1.pending = s.pending := by
  unfold decideWatch; split <;> rfl

theorem decideWatchClear_keeps_pending (c : Byte) : (decideWatchClear p c s).1.pending = s.pending := by
  unfold decideWatchClear
  split
  · rfl
  · split <;> rfl

theorem decideSetting_keeps_pending (c : Byte) (a : Half) : (decideSetting c a s).1.pending = s.pending := by
  simp only [decideSetting]
  repeat' split
  all_goals simp

theorem decideFactory_keeps_pending : (decideFactory p s).1.pending = s.pending := by
  unfold decideFactory; split <;> rfl

/-- No decision of a request touches the queue of waiting commands. -/
theorem decideRequest_keeps_pending (r : Request) : (decideRequest p r s).1.pending = s.pending := by
  unfold decideRequest
  split
  · exact decideClaim_keeps_pending s p _
  · exact decideYield_keeps_pending s p _
  · exact decideGain_keeps_pending s p _ _
  · exact decidePad_keeps_pending s p _ _
  · exact decideMode_keeps_pending s p _ _
  · exact decidePhantom_keeps_pending s p _ _
  · exact decideTrim_keeps_pending s p _ _
  · exact decideMute_keeps_pending s p _ _
  · exact decideLink_keeps_pending s p _ _
  · exact decideSlot_keeps_pending s p _ _ _
  · exact decideCommit_keeps_pending s p
  · exact decideRound_keeps_pending s p _
  · exact decideWatch_keeps_pending s p _ _ _
  · exact decideWatchClear_keeps_pending s p _
  · exact decideSetting_keeps_pending s _ _
  · exact decideFactory_keeps_pending s p
  · rfl

/-! ### Requests taken from their queues (R149 to R151) -/

theorem State.takeOne_pending : (s.takeOne p).pending = s.pending := by
  unfold State.takeOne
  split
  · rfl
  · split
    · exact decideRequest_keeps_pending (s.setPort p _) p _
    · rfl

theorem State.takes_pending (n : Nat) : (s.takes p n).pending = s.pending := by
  induction n generalizing s with
  | zero => rfl
  | succ n ih => exact (ih (s.takeOne p)).trans (s.takeOne_pending p)

theorem State.drain_pending : (s.drain p).pending = s.pending := s.takes_pending p _

theorem State.join_pending (r : Request) : (s.join p r).pending = s.pending := by
  unfold State.join
  split
  · exact State.drain_pending (s.setPort p _) p
  · rfl

theorem State.request_pending (r : Request) : (s.request p r).pending = s.pending := by
  unfold State.request
  split
  · rfl
  · exact s.join_pending p r

theorem State.takeWaiting_pending (schedule : List Port) : (s.takeWaiting schedule).pending = s.pending :=
  (foldl_pending State.drain_pending allPorts _).trans (foldl_pending State.takeOne_pending schedule s)

/-! ### Lanes and copies (R141 to R147) -/

@[simp] theorem State.setLane_pending (l : LaneId) (x : Lane) : (s.setLane p l x).pending = s.pending := rfl

@[simp] theorem State.forgetIfLaneChanged_pending (before : State) :
    (s.forgetIfLaneChanged before).pending = s.pending := (clockOnly_forgetIfLaneChanged s before).pending

@[simp] theorem State.measure_pending (count : Byte) (tick : Nat) : (s.measure count tick).pending = s.pending :=
  (clockOnly_measure s count tick).pending

@[simp] theorem State.attachPort_pending : (s.attachPort p).pending = s.pending := by
  unfold State.attachPort
  split
  · rfl
  · exact (clockOnly_clockAttached _ p).pending

@[simp] theorem State.detachPort_pending : (s.detachPort p).pending = s.pending := by
  unfold State.detachPort
  split
  · exact (clockOnly_clockDetached _ p).pending
  · rfl

@[simp] theorem State.dropLane_pending (l : LaneId) : (s.dropLane p l).pending = s.pending := by
  simp only [State.dropLane, State.forgetIfLaneChanged_pending]
  split <;> simp

theorem State.missLane_pending (l : LaneId) : (s.missLane p l).pending = s.pending := by
  simp only [State.missLane]
  repeat' split
  all_goals simp

@[simp] theorem State.validHeader_pending (l : LaneId) (count : Byte) (tick : Nat) :
    (s.validHeader p l count tick).pending = s.pending := by
  simp only [State.validHeader]
  repeat' split
  all_goals simp

theorem State.arrive_pending (l : LaneId) (count requests crcHigh crcLow : Byte) (tick : Nat) :
    (s.arrive p l count requests crcHigh crcLow tick).pending = s.pending := by
  simp only [State.arrive]
  repeat' split
  all_goals simp

theorem State.takeCopy_pending (l : LaneId) (count : Byte) (frames : List Request) :
    (s.takeCopy p l count frames).pending = s.pending :=
  foldl_pending (fun t r => t.join_pending p r) frames _

theorem State.endCopy_pending (l : LaneId) (rest : List Byte) : (s.endCopy p l rest).pending = s.pending := by
  unfold State.endCopy
  dsimp only
  split
  · rfl
  · rfl
  · split
    · exact State.takeCopy_pending (s.setLane p l _) p l _ _
    · rfl

/-! ### Port loss, the restart and the start (R148, R170, R173) -/

theorem State.writeDefaults_pending : s.writeDefaults.pending = s.pending := by
  unfold State.writeDefaults; split <;> rfl

theorem State.beginRestart_pending : s.beginRestart.pending = s.pending :=
  State.writeDefaults_pending { s with phase := .restartWaits }

theorem State.startUp_pending : s.startUp.pending = s.pending := rfl

theorem State.lostBeforeClock_pending : (s.lostBeforeClock p).pending = s.pending := by
  have units (t : State) : (t.loseHoldings p).pending = t.pending :=
    foldl_pending (fun t u => t.loseUnit_pending p u) allInputs t
  have rest (t : State) : ((t.loseMaps p).loseWatches p).pending = t.pending := rfl
  rw [State.lostBeforeClock, rest, units, State.setPort_pending]

theorem State.losePort_pending : (s.losePort p).pending = s.pending := by
  have lost : ((s.lostBeforeClock p).clockDetached p).pending = s.pending :=
    (clockOnly_clockDetached _ p).pending.trans (s.lostBeforeClock_pending p)
  rw [State.losePort_eq]
  dsimp only
  split
  · exact (State.beginRestart_pending _).trans lost
  · exact lost

/-! ### The cycle boundaries -/

theorem State.startBlocks_pending : s.startBlocks.pending = s.pending := by
  rw [State.startBlocks_eq_enterCycle]; rfl

theorem State.leave_pending : s.leave.pending = s.pending := rfl

theorem State.startCycle_pending (schedule : List Port) : (s.startCycle schedule).pending = s.pending := by
  have sent (t : State) (count : Byte) (leaving : Vector (List Response) 4) (i : InputNo) :
      ((t.sendDownlinks count leaving).clearReported i).pending = t.pending := rfl
  unfold State.startCycle
  dsimp only
  split
  · rw [State.beginRestart_pending, sent, State.takeWaiting_pending, State.leave_pending, State.startBlocks_pending]
  · rw [sent, State.takeWaiting_pending, State.leave_pending, State.startBlocks_pending]

theorem State.endCycle_pending (samples : CycleSamples) : (s.endCycle samples).pending = s.pending := by
  simp only [State.endCycle, State.evaluateWatches, State.setStickies, State.takeSamples, State.handRecords,
    State.endFrontEnd]

/-! ### Every command -/

theorem State.whenRunning_pending {s t : State} (h : t.pending = s.pending) :
    (s.whenRunning t).pending = s.pending := by
  unfold State.whenRunning
  split
  · exact h
  · rfl

/-- Every command answers a next state, and none touches the queue of waiting commands. -/
theorem exec_answers_keeping_pending (c : Instr) (s : State) : ∃ t, exec c s = .next t ∧ t.pending = s.pending := by
  have running {t : State} (h : t.pending = s.pending) :
      ∃ u, Host.Outcome.next (φ := Fault) (ρ := Refusal) (s.whenRunning t) = .next u ∧ u.pending = s.pending :=
    ⟨_, rfl, State.whenRunning_pending h⟩
  have requests (p : Port) (r : Request) := running (s.request_pending p r)
  cases c
  case copyStart p l rest => exact running (s.endCopy_pending p l rest)
  case signalLoss p l rest => exact running (s.endCopy_pending p l rest)
  case headerArrival p l count n hi lo tick => exact running (s.arrive_pending p l count n hi lo tick)
  case miss p l => exact running (s.missLane_pending p l)
  case graceExpiry p =>
    refine running ?_
    split
    · exact s.losePort_pending p
    · rfl
  case cycleStart schedule => exact running (s.startCycle_pending schedule)
  case cycleEnd samples => exact running (s.endCycle_pending samples)
  case modeTimerExpiry | faultVoidTimerExpiry => exact running rfl
  case chargeTimerExpiry g | dischargeTimerExpiry g | lowSenseTimerExpiry g =>
    exact running (s.changeGroup_pending g _)
  case acquireTimerExpiry => exact running (clockOnly_acquireExpired s).pending
  case holdoverTimerExpiry => exact running (clockOnly_holdoverExpired s).pending
  case quietTimerExpiry | ceilingTimerExpiry => exact running (by split <;> rfl)
  case senseChange | setupSwitchTurn | powerLoss => exact ⟨_, rfl, rfl⟩
  case frontEndWriteComplete | settingsWriteComplete =>
    refine ⟨_, rfl, ?_⟩
    split
    · rfl
    · exact State.writeDefaults_pending _
    · rfl
  case factoryWriteComplete =>
    refine ⟨_, rfl, ?_⟩
    split
    · rfl
    · exact State.startUp_pending _
    all_goals rfl
  case powerOn a b => exact ⟨_, rfl, State.startUp_pending _⟩
  all_goals exact requests _ _

end Sys2Proof.Machine

namespace Sys2Proof.Proofs

/-- Settles O2: every meaning ends in a next state, and no operation it is made of touches the queue of waiting
commands. -/
theorem everyCommandAnswersANextState : Obligations.EveryCommandAnswersANextState :=
  Sys2Proof.Machine.exec_answers_keeping_pending

end Sys2Proof.Proofs
end

section
/-! SUPPORT and the statements on PHANTOM (R7 to R11, R17, R18) and on the timers and the sense level of the front end
(R6 to R12): what a change of one group leaves of the whole state, then each event as such a change. -/

namespace Sys2Proof.Machine

open Sys2Proof.Safety Sys2Proof.Claims

/-! ### Phantom reaches the inputs of a group (R7) -/

theorem mem_groupInputs (g : GroupNo) (j : InputNo) : j ∈ groupInputs g ↔ groupOf j = g := by
  simp only [groupInputs, groupOf, List.mem_cons, List.not_mem_nil, or_false, Fin.ext_iff]
  omega

/-- The input with phantom noted to have reached it, where its mode lets phantom reach it (R7). -/
def Preamp.reached (x : Preamp) : Preamp := if x.modeInEffect = .mic then { x with phantomReached := true } else x

theorem Preamp.reached_reached (x : Preamp) : x.reached.reached = x.reached := by
  by_cases mic : x.modeInEffect = .mic <;> simp [Preamp.reached, mic]

/-- The state with other inputs. -/
def State.withInputs (s : State) (x : Vector Preamp 32) : State := { s with frontEnd := { s.frontEnd with inputs := x } }

@[simp] theorem State.withInputs_withInputs (s : State) (x y : Vector Preamp 32) :
    (s.withInputs x).withInputs y = s.withInputs y := rfl

theorem State.withInputs_input (s : State) (f : InputNo → Preamp) (i : InputNo) :
    (s.withInputs (.fill f)).input i = f i := Vector.pick_fill f i

/-- The inputs after phantom has reached some of them. -/
def State.reachedInputs (s : State) (hit : InputNo → Prop) [DecidablePred hit] : Vector Preamp 32 :=
  .fill fun j => if hit j then (s.input j).reached else s.input j

theorem State.reachInput_eq (s : State) (i : InputNo) : s.reachInput i = s.withInputs (s.reachedInputs (· = i)) := by
  have reached : s.reachInput i = s.setInput i (s.input i).reached := by
    unfold State.reachInput Preamp.reached
    split
    · rfl
    · simp [State.setInput, State.input]
  have inputs : s.frontEnd.inputs.put i (s.input i).reached = s.reachedInputs (· = i) := by
    refine Vector.pick_ext fun j => ?_
    rw [Vector.pick_put, State.reachedInputs, Vector.pick_fill]
    split
    · next here => rw [here]
    · rfl
  rw [reached, ← inputs]
  rfl

theorem State.foldl_reachInput (l : List InputNo) (s : State) :
    l.foldl State.reachInput s = s.withInputs (s.reachedInputs (· ∈ l)) := by
  induction l generalizing s with
  | nil =>
    have none : s.reachedInputs (· ∈ []) = s.frontEnd.inputs :=
      Vector.pick_ext fun i => (Vector.pick_fill _ i).trans (if_neg List.not_mem_nil)
    rw [none]; rfl
  | cons i l ih =>
    have inputs : (s.withInputs (s.reachedInputs (· = i))).reachedInputs (· ∈ l) = s.reachedInputs (· ∈ i :: l) := by
      refine Vector.pick_ext fun j => ?_
      simp only [State.reachedInputs, State.withInputs_input, Vector.pick_fill, List.mem_cons]
      by_cases here : j = i
      · by_cases later : j ∈ l <;> simp [here, Preamp.reached_reached]
      · simp [here]
    rw [List.foldl_cons, ih, State.reachInput_eq, State.withInputs_withInputs, inputs]

/-! ### One group changes -/

/-- What a change of one group leaves: the group itself, its MIC inputs as reached by phantom where the new state
supplies them, and the store with a change of phantom requested noted (R7, R18). -/
theorem State.changeGroup_eq (s : State) (g : GroupNo) (x : PhantomGroup) :
    s.changeGroup g x =
      { (s.withInputs (s.reachedInputs fun j => groupOf j = g ∧ x.state.live = true)).setGroup g x with
        store := if (s.group g).state.live = x.state.live then s.store
          else s.store.noteChange { s.store.frontEnd with phantom := s.store.frontEnd.phantom.put g x.state.live } } := by
  have reached : (if x.state.live then (groupInputs g).foldl State.reachInput (s.setGroup g x) else s.setGroup g x) =
      (s.withInputs (s.reachedInputs fun j => groupOf j = g ∧ x.state.live = true)).setGroup g x := by
    cases live : x.state.live with
    | true =>
      have inputs : (s.setGroup g x).reachedInputs (· ∈ groupInputs g) =
          s.reachedInputs fun j => groupOf j = g ∧ true = true := by
        simp only [State.reachedInputs, mem_groupInputs, State.setGroup_input, and_true]
      rw [if_pos rfl, State.foldl_reachInput, inputs]
      rfl
    | false =>
      have inputs : (s.reachedInputs fun j => groupOf j = g ∧ false = true) = s.frontEnd.inputs :=
        Vector.pick_ext fun i => (Vector.pick_fill _ i).trans (if_neg (by simp))
      rw [if_neg Bool.false_ne_true, inputs]
      rfl
  unfold State.changeGroup
  dsimp only
  rw [reached]
  generalize (s.reachedInputs fun j => groupOf j = g ∧ x.state.live = true) = inputs
  split <;> rfl

/-- The change of one group as the statements write it. -/
theorem State.changeGroup_becomes (s : State) (g : GroupNo) (x : PhantomGroup) :
    { s.changeGroup g x with frontEnd := s.frontEnd, store := s.store } = s ∧
      groupBecomes s (s.changeGroup g x) g x := by
  have inputs (j : InputNo) :
      (s.reachedInputs fun j => groupOf j = g ∧ x.state.live = true).pick j =
        if groupOf j = g ∧ (s.input j).modeInEffect = .mic ∧ phantomRequested x = true
        then { s.input j with phantomReached := true } else s.input j := by
    rw [State.reachedInputs, Vector.pick_fill, PhantomGroup.live_eq, Preamp.reached]
    by_cases mic : (s.input j).modeInEffect = .mic <;> simp [mic]
  rw [State.changeGroup_eq]
  generalize (s.reachedInputs fun j => groupOf j = g ∧ x.state.live = true) = reached at inputs ⊢
  refine ⟨rfl, rfl, rfl, inputs, ?_⟩
  simp only [PhantomGroup.live_eq, Store.noteChange_eq_noted]

/-! ### The decision of PHANTOM (R17) -/

theorem groupTarget_target (g : GroupNo) : groupTarget (target g) = some g := by
  have h : (target g).toNat = g.val := by simp only [target, BitVec.toNat_ofNat]; omega
  simp only [groupTarget, h, g.isLt, dif_pos]

theorem PhantomState.code_eq_groupCode (x : PhantomState) : ((x.code : Nat) : Int) = groupCode x := by cases x <;> rfl

theorem State.contested_iff (s : State) (p : Port) (g : GroupNo) :
    s.contested p g = true ↔ ∃ j h, groupOf j = g ∧ (s.holding j).holder = some h ∧ h ≠ p := by
  have holder (x : Option Port) : (x.isSome && x != some p) = true ↔ ∃ h, x = some h ∧ h ≠ p := by
    cases x <;> simp
  simp only [State.contested, List.any_eq_true, mem_groupInputs, holder, exists_and_left]

/-- The two columns of the table of section 1.5. -/
theorem PhantomGroup.turn_eq_table (x : PhantomGroup) (on : Bool) :
    (if on then x.turnOn else x.turnOff) = phantomTable x on := by
  cases on <;> cases state : x.state <;>
    simp [PhantomGroup.turnOn, PhantomGroup.turnOff, phantomTable, state, Config.chargeTicks, Config.dischargeTicks]

theorem exec_phantom_ready {s : State} {p : Port} (c : Byte) (a : Half) (h : ready s p) :
    exec (.phantom p c a) s = .next ((decidePhantom p c a s).1.withLinks
      (answeredLinks s p ((decidePhantom p c a s).2.toResponse { kind := 6, target := c, a := a, b := 0 }))) :=
  congrArg Host.Outcome.next (State.whenRunning_request _ h)

section

variable {s : State} {p : Port} {g : GroupNo} {a : Half}

theorem decidePhantom_badValue (zero : a.toInt ≠ 0) (one : a.toInt ≠ 1) :
    decidePhantom p (target g) a s = (s, { outcome := .badValue, value := groupCode (s.group g).state }) := by
  simp only [decidePhantom, groupTarget_target, onOff_none zero one, PhantomState.code_eq_groupCode]

theorem decidePhantom_contested (h : a.toInt = 0 ∨ a.toInt = 1) (contested : s.contested p g = true) :
    decidePhantom p (target g) a s = (s, { outcome := .contested, value := groupCode (s.group g).state }) := by
  simp only [decidePhantom, groupTarget_target, onOff_some h, contested, if_true, PhantomState.code_eq_groupCode]

theorem decidePhantom_done (h : a.toInt = 0 ∨ a.toInt = 1) (clear : s.contested p g = false) :
    let x := phantomTable (s.group g) (a.toInt = 1)
    decidePhantom p (target g) a s = (s.changeGroup g x, { outcome := .done, value := groupCode x.state }) := by
  simp only [decidePhantom, groupTarget_target, onOff_some h, clear, Bool.false_eq_true, if_false,
    PhantomGroup.turn_eq_table, PhantomState.code_eq_groupCode]

end

/-! ### The front end's timers and the sense level (R6 to R12) -/

/-- A timer event of a group that changes it. -/
theorem next_changeGroup {s : State} {g : GroupNo} {x y : PhantomGroup} (running : s.phase = .running) (h : x = y) :
    ∃ t, Host.Outcome.next (φ := Fault) (ρ := Refusal) (s.whenRunning (s.changeGroup g x)) = .next t ∧
      { t with frontEnd := s.frontEnd, store := s.store } = s ∧ groupBecomes s t g y := by
  subst h
  rw [State.whenRunning_running _ running]
  exact ⟨_, rfl, s.changeGroup_becomes g x⟩

theorem PhantomGroup.chargeExpired_ok {x : PhantomGroup} (state : x.state = .charging) (timer : x.chargeTimer ≠ none)
    (sense : x.sense = .ok) :
    x.chargeExpired = { x with state := .on, chargeTimer := none, lowSenseTimer := none } := by
  simp [PhantomGroup.chargeExpired, state, Option.isSome_iff_ne_none, timer, sense, PhantomGroup.enterOn]

theorem PhantomGroup.chargeExpired_low {x : PhantomGroup} (state : x.state = .charging) (timer : x.chargeTimer ≠ none)
    (sense : x.sense = .low) : x.chargeExpired = faulted x := by
  simp [PhantomGroup.chargeExpired, state, Option.isSome_iff_ne_none, timer, sense, PhantomGroup.enterFault,
    Config.dischargeTicks]

theorem PhantomGroup.dischargeExpired_running {x : PhantomGroup} (state : x.state = .discharging)
    (timer : x.dischargeTimer ≠ none) : x.dischargeExpired = { x with state := .off, dischargeTimer := none } := by
  simp [PhantomGroup.dischargeExpired, state, Option.isSome_iff_ne_none, timer]

theorem PhantomGroup.lowSenseExpired_running {x : PhantomGroup} (state : x.state = .on)
    (timer : x.lowSenseTimer ≠ none) : x.lowSenseExpired = faulted x := by
  simp [PhantomGroup.lowSenseExpired, state, Option.isSome_iff_ne_none, timer, PhantomGroup.enterFault,
    Config.dischargeTicks]

theorem PhantomGroup.sensed_change {x : PhantomGroup} {level : Sense} (change : x.sense ≠ level) :
    x.sensed level = { x with
      sense := level
      lowSenseTimer := if x.state ≠ .on then x.lowSenseTimer
        else if level = .low then some (Config.ms 100) else none } := by
  by_cases on : x.state = .on <;> simp [PhantomGroup.sensed, change, on, Config.lowSenseTicks]

theorem PhantomGroup.sensed_same {x : PhantomGroup} {level : Sense} (same : x.sense = level) : x.sensed level = x := by
  simp [PhantomGroup.sensed, same]

end Sys2Proof.Machine

namespace Sys2Proof.Proofs

open Sys2Proof.Machine Sys2Proof.Safety Sys2Proof.Claims

/-- Settles O13: the refusals are answers alone, and otherwise the decision changes one group by the table. -/
theorem phantomFollowsTheGroupTable : Obligations.PhantomFollowsTheGroupTable := by
  intro s p g a hr contested refuse
  have decides := s.contested_iff p g
  refine ⟨fun zero one => ?_, fun operand held => ?_, fun operand clear => ?_⟩
  · rw [onlyAnswers, exec_phantom_ready _ a hr, decidePhantom_badValue zero one]; rfl
  · rw [onlyAnswers, exec_phantom_ready _ a hr, decidePhantom_contested operand (decides.mpr held)]; rfl
  · intro x
    obtain ⟨frame, front, groups, inputs, store⟩ := s.changeGroup_becomes g x
    refine ⟨_, exec_phantom_ready _ a hr, ?_⟩
    rw [decidePhantom_done operand (Bool.eq_false_iff.mpr (mt decides.mp clear))]
    exact ⟨congrArg (fun t : State => t.withLinks s.links) frame, ⟨front, groups, inputs, store⟩, rfl⟩

/-- Settles O50: each event is one change of an input's timer or of a group, which leaves what `changeGroup` leaves. -/
theorem frontEndTimersAndSense : Obligations.FrontEndTimersAndSense := by
  intro s i g level running x becomes
  have acts (t : State) : Host.Outcome.next (φ := Fault) (ρ := Refusal) (s.whenRunning t) = .next t :=
    congrArg _ (State.whenRunning_running t running)
  refine ⟨acts _, acts _, fun state timer sense => ?_, fun state timer sense => ?_, fun state timer => ?_,
    fun state timer => ?_, fun change => ?_, fun same => ?_⟩
  · exact next_changeGroup running (PhantomGroup.chargeExpired_ok state timer sense)
  · exact next_changeGroup running (PhantomGroup.chargeExpired_low state timer sense)
  · exact next_changeGroup running (PhantomGroup.dischargeExpired_running state timer)
  · exact next_changeGroup running (PhantomGroup.lowSenseExpired_running state timer)
  · exact congrArg (fun y => Host.Outcome.next (s.setGroup g y)) (PhantomGroup.sensed_change change)
  · refine congrArg Host.Outcome.next ?_
    rw [PhantomGroup.sensed_same same]
    simp [State.setGroup, x, State.group]

end Sys2Proof.Proofs
end

section
/-! SUPPORT. The analog state and the records (R1, R2, R4, R51 to R53): what it means of one input, of the store and of
one record that they are in range and settled, and that each operation of the front end, of the gain arbiter and of the
store keeps it. -/

namespace Sys2Proof.Machine

open Sys2Proof.Safety Sys2Proof.Claims

/-! ### One input (R1, R2, R4) -/

/-- Gain target, gain actual and settle count in range, and the effective analog gain that of R1. -/
def Preamp.InRange (x : Preamp) : Prop :=
  x.gainTarget ≤ 60 ∧ x.gainActual ≤ 60 ∧ x.settle ≤ 4 ∧
  x.effective = (x.gainActual : Int) - (if x.padInEffect then 20 else 0)

theorem Preamp.InRange.effective {x : Preamp} (h : x.InRange) : -20 ≤ x.effective ∧ x.effective ≤ 60 := by
  obtain ⟨-, actual, -, effective⟩ := h
  rw [effective]
  split <;> omega

theorem Preamp.InRange.endCycle {x : Preamp} (h : x.InRange) (v : Vector Sample 64) : (x.endCycle v).InRange := by
  unfold Preamp.endCycle
  split
  · exact h
  · exact h

theorem Preamp.endCycle_effective (x : Preamp) (v : Vector Sample 64) : (x.endCycle v).effective = x.effective := by
  unfold Preamp.endCycle; split <;> rfl

/-- The gain moves by a step, the settle is started or counted down, and the gain of R1 fixed. -/
theorem Preamp.InRange.started {s : State} {i : InputNo} (h : (s.input i).InRange) : (started s i).InRange := by
  obtain ⟨target, actual, settle, -⟩ := h
  refine ⟨target, ?_, ?_, rfl⟩
  · dsimp only
    repeat' split
    all_goals omega
  · dsimp only
    split <;> omega

theorem startInput_inRange {r : StoredFrontEnd} (h : stepsInRange r) (i : InputNo) : (startInput r i).InRange :=
  ⟨h i, h i, Nat.zero_le 4, rfl⟩

/-! ### The stored steps -/

/-- Every step kept in or on its way to storage is a gain step. -/
def Store.StepsInRange (st : Store) : Prop :=
  stepsInRange st.frontEnd ∧ stepsInRange st.frontEndCopy.record ∧
  ∀ w, st.frontEndWrite = some w → stepsInRange w.record

theorem stepsInRange_defaults : stepsInRange .defaults := fun i => by
  rw [StoredFrontEnd.defaults, Vector.pick_fill]; decide

theorem stepsInRange_put {r : StoredFrontEnd} (h : stepsInRange r) (i : InputNo) {n : Nat} (step : n ≤ 60) :
    stepsInRange { r with steps := r.steps.put i n } := fun j => by
  dsimp only
  rw [Vector.pick_put]
  split
  · exact step
  · exact h j

/-- The record loaded at start holds steps of the stored copy, or the default step (R83, R173). -/
theorem stepsInRange_load {c : FrontEndCopy} (h : stepsInRange c.record) : stepsInRange c.load := fun i => by
  have loaded : stepsInRange c.loaded := by
    unfold FrontEndCopy.loaded
    split
    · exact h
    · exact stepsInRange_defaults
  rw [FrontEndCopy.load_eq, (c.loaded.conform_pick i).1]
  exact loaded _

namespace Store.StepsInRange

variable {st : Store}

theorem noteChange (h : st.StepsInRange) {e : StoredFrontEnd} (edited : stepsInRange e) :
    (st.noteChange e).StepsInRange := by
  obtain ⟨-, copy, write⟩ := h
  refine ⟨edited, copy, fun w hw => ?_⟩
  simp only [Store.noteChange, Option.map_eq_some_iff] at hw
  obtain ⟨w, running, rfl⟩ := hw
  exact write w running

theorem beginWrite (h : st.StepsInRange) : st.beginWrite.StepsInRange := by
  obtain ⟨current, copy, -⟩ := h
  refine ⟨current, copy, ?_⟩
  rintro _ ⟨⟩
  exact current

theorem frontEndWritten (h : st.StepsInRange) {w : FrontEndWrite} (running : st.frontEndWrite = some w) :
    (st.frontEndWritten w).StepsInRange := by
  obtain ⟨current, -, write⟩ := h
  exact ⟨current, write w running, by simp [Store.frontEndWritten]⟩

end Store.StepsInRange

/-! ### One record (R51 to R53) -/

/-- Anchor and trim in range (R51). -/
def CompRecord.Based (r : CompRecord) : Prop := (-20 ≤ r.anchor ∧ r.anchor ≤ 60) ∧ -160 ≤ r.trim ∧ r.trim ≤ 96

/-- The record is in range, and recomputing it for a standing on `e` changes nothing (R52, R53). -/
structure CompRecord.Lawful (r : CompRecord) (held : Bool) (e : Int) : Prop where
  based : r.Based
  settled : r.recompute held e = r

theorem CompRecord.recompute_recompute (r : CompRecord) (held : Bool) (e : Int) :
    (r.recompute held e).recompute held e = r.recompute held e := by
  cases held <;> rfl

/-- A recomputed record is lawful for the standing it was recomputed for. -/
theorem CompRecord.Based.recompute {r : CompRecord} (h : r.Based) (held : Bool) (e : Int) :
    (r.recompute held e).Lawful held e := by
  refine ⟨?_, r.recompute_recompute held e⟩
  cases held <;> exact h

theorem CompRecord.Lawful.inRange {r : CompRecord} {held : Bool} {e : Int} (h : r.Lawful held e) :
    recordInRange r := by
  obtain ⟨⟨⟨low, high⟩, trimLow, trimHigh⟩, settled⟩ := h
  refine ⟨low, high, trimLow, trimHigh, ?_⟩
  have applied := congrArg CompRecord.applied settled
  cases held with
  | true => rw [CompRecord.recompute_holder] at applied; dsimp only at applied; omega
  | false => rw [CompRecord.recompute_other] at applied; dsimp only at applied; omega

theorem CompRecord.based_of_inRange {r : CompRecord} (h : recordInRange r) : r.Based := by
  obtain ⟨low, high, trimLow, trimHigh, -⟩ := h
  exact ⟨⟨low, high⟩, trimLow, trimHigh⟩

/-- A record is settled when recomputing it for its standing changes nothing. -/
theorem recordSettled_iff (s : State) (p : Port) (i : InputNo) :
    recordSettled s p i ↔ (s.record p i).recompute (s.holds p i) (s.effective i) = s.record p i := by
  have limited (b : Bool) (beyond : Prop) [Decidable beyond] : (b = true ↔ beyond) ↔ decide beyond = b := by
    cases b <;> simp
  rw [State.holds_eq]
  by_cases held : isHolder s p i
  · rw [recordSettled, if_pos held, decide_eq_true held, CompRecord.recompute_holder]
    rcases s.record p i with ⟨anchor, trim, mute, compLimited, applied⟩
    simp only [CompRecord.mk.injEq, true_and]
    exact and_comm.trans (and_congr eq_comm eq_comm)
  · rw [recordSettled, if_neg held, decide_eq_false held, CompRecord.recompute_other]
    rcases s.record p i with ⟨anchor, trim, mute, compLimited, applied⟩
    simp only [CompRecord.mk.injEq, true_and, State.effective]
    exact and_comm.trans (and_congr (limited _ _) eq_comm)

/-! ### The laws together -/

/-- The analog state, the stored steps and every record are in range, and every record kept is settled. -/
structure State.InRange (s : State) : Prop where
  inputs : ∀ i, (s.input i).InRange
  steps : s.store.StepsInRange
  records : ∀ p i, (s.record p i).Lawful (s.holds p i) (s.effective i)
  handed : ∀ p i, recordInRange ((s.arbiter.handed.pick p).pick i)

theorem State.inRange_iff (s : State) : s.InRange ↔ analogInRange s ∧ recordsOk s := by
  constructor
  · rintro ⟨inputs, steps, records, handed⟩
    exact ⟨⟨inputs, steps⟩, fun p i =>
      ⟨(records p i).inRange, handed p i, (recordSettled_iff s p i).mpr (records p i).settled⟩⟩
  · rintro ⟨⟨inputs, steps⟩, records⟩
    refine ⟨inputs, steps, fun p i => ?_, fun p i => (records p i).2.1⟩
    obtain ⟨range, -, settled⟩ := records p i
    exact ⟨CompRecord.based_of_inRange range, (recordSettled_iff s p i).mp settled⟩

namespace State.InRange

variable {s t : State}

theorem effective (h : s.InRange) (i : InputNo) : -20 ≤ s.effective i ∧ s.effective i ≤ 60 := (h.inputs i).effective

/-- A change that leaves the arbiter and every E_n. -/
theorem of_arbiter (h : s.InRange) (arbiter : t.arbiter = s.arbiter) (inputs : ∀ i, (t.input i).InRange)
    (effective : ∀ i, t.effective i = s.effective i) (steps : t.store.StepsInRange) : t.InRange := by
  refine ⟨inputs, steps, fun p i => ?_, by rw [arbiter]; exact h.handed⟩
  have record : t.record p i = s.record p i := by rw [State.record, arbiter]; rfl
  have holds : t.holds p i = s.holds p i :=
    congrArg (fun x : Arbiter => State.holds { s with arbiter := x } p i) arbiter
  rw [record, holds, effective]
  exact h.records p i

/-- A change of the store alone. -/
theorem withStore (h : s.InRange) {st : Store} (steps : st.StepsInRange) : State.InRange { s with store := st } :=
  h.of_arbiter rfl h.inputs (fun _ => rfl) steps

/-- A change of holders and records alone. -/
theorem of_hands (h : s.InRange) (frame : SameButHands s t)
    (records : ∀ p i, (t.record p i).Lawful (t.holds p i) (s.effective i)) : t.InRange := by
  refine ⟨fun i => by rw [frame.input]; exact h.inputs i, ?_, fun p i => ?_, by rw [frame.handed]; exact h.handed⟩
  · rw [show t.store = s.store from congrArg (·.store) frame]; exact h.steps
  · rw [frame.effective]; exact records p i

/-- One input changes, its E_n not. -/
theorem setInput (h : s.InRange) {i : InputNo} {x : Preamp} (range : x.InRange)
    (effective : x.effective = s.effective i) : (s.setInput i x).InRange := by
  refine h.of_arbiter rfl (fun j => ?_) (fun j => ?_) h.steps
  · rw [State.input_setInput]
    split
    · exact range
    · exact h.inputs j
  · rw [State.effective, State.input_setInput]
    split
    · next here => rw [effective, here]
    · rfl

theorem foldl {α : Type} {f : State → α → State} (hf : ∀ s a, s.InRange → (f s a).InRange) (l : List α)
    (h : s.InRange) : (l.foldl f s).InRange := by
  induction l generalizing s with
  | nil => exact h
  | cons a l ih => exact ih (hf s a h)

/-! ### The front end (chapter 1) -/

theorem setGainTarget (h : s.InRange) (i : InputNo) {n : Nat} (step : n ≤ 60) : (s.setGainTarget i n).InRange := by
  unfold State.setGainTarget
  split
  · exact h
  · obtain ⟨-, rest⟩ := h.inputs i
    have moved : (s.setInput i { s.input i with gainTarget := n }).InRange := h.setInput ⟨step, rest⟩ rfl
    exact moved.withStore (h.steps.noteChange (stepsInRange_put h.steps.1 i step))

theorem requestPad (h : s.InRange) (i : InputNo) (on : Bool) : (s.requestPad i on).InRange :=
  h.setInput (h.inputs i) rfl

theorem requestMode (h : s.InRange) (i : InputNo) (m : Mode) : (s.requestMode i m).InRange :=
  h.setInput (h.inputs i) rfl

theorem changeGroup (h : s.InRange) (g : GroupNo) (x : PhantomGroup) : (s.changeGroup g x).InRange := by
  obtain ⟨frame, -, -, input, store⟩ := s.changeGroup_becomes g x
  have arbiter := congrArg State.arbiter frame
  refine h.of_arbiter arbiter (fun j => ?_) (fun j => ?_) ?_
  · rw [input]
    split
    · exact h.inputs j
    · exact h.inputs j
  · rw [State.effective, input]
    split <;> rfl
  · rw [store, ← Store.noteChange_eq_noted]
    split
    · exact h.steps
    · exact h.steps.noteChange h.steps.1

theorem endFrontEnd (h : s.InRange) (samples : CycleSamples) : (s.endFrontEnd samples).InRange := by
  have input (i : InputNo) : (s.endFrontEnd samples).input i = (s.input i).endCycle (samples.pick i) := by
    unfold State.endFrontEnd; exact Vector.pick_fill _ i
  have arbiter : (s.endFrontEnd samples).arbiter = s.arbiter := by simp only [State.endFrontEnd]
  have store : (s.endFrontEnd samples).store = s.store := by simp only [State.endFrontEnd]
  refine h.of_arbiter arbiter (fun i => ?_) (fun i => ?_) (by rw [store]; exact h.steps)
  · rw [input]; exact (h.inputs i).endCycle _
  · rw [State.effective, input]; exact (s.input i).endCycle_effective _

end State.InRange

end Sys2Proof.Machine
end

section
/-! SUPPORT. The records through the gain arbiter's operations (R52 to R57, R60, R63, R75): a release, a grant, an edit
and a copy each recompute the records whose standing they change. -/

namespace Sys2Proof.Machine

open Sys2Proof.Safety Sys2Proof.Claims

/-! ### Standing in a unit whose holding is replaced (R25, R43) -/

theorem State.holds_eq_holder (s : State) (p : Port) (i : InputNo) :
    s.holds p i = ((s.holding (s.unitOf i)).holder == some p) := rfl

theorem UnitBecomes.holds {s t : State} {u : InputNo} {h : Holding} (c : UnitBecomes s u h t)
    (hu : s.isLinkedOdd u = false) (p : Port) (i : InputNo) :
    t.holds p i = if i ∈ s.members u then h.holder == some p else s.holds p i := by
  rw [State.holds_eq_holder, c.frame.unitOf, c.holding]
  simp only [State.mem_members_iff hu, State.unitOf_eq_self (s.unitOf_isUnit i)]
  by_cases own : s.unitOf i = u <;> simp [own, State.holds_eq_holder]

/-- A member's holder is its unit's. -/
theorem State.holds_of_mem {s : State} {u i : InputNo} (hu : s.isLinkedOdd u = false) (hi : i ∈ s.members u)
    (p : Port) : s.holds p i = ((s.holding u).holder == some p) := by
  rw [State.holds_eq_holder, (State.mem_members_iff hu i).mp hi]

/-- Wait queues say nothing of who holds a unit. -/
theorem State.setQueue_holds (s : State) (u : InputNo) (queue : List Port) (p : Port) (i : InputNo) :
    (s.setQueue u queue).holds p i = s.holds p i := by
  have unit : (s.setQueue u queue).unitOf i = s.unitOf i := rfl
  rw [State.holds_eq_holder, State.holds_eq_holder, unit, State.setQueue, State.holding_setHolding]
  split
  · next own => rw [own]
  · rfl

/-! ### Records that change hands -/

theorem CompRecord.lawful_freeze {r : CompRecord} {e : Int} (h : r.Based) (range : -20 ≤ e ∧ e ≤ 60) :
    (r.freeze e).Lawful false e := CompRecord.Based.recompute (r := { r with anchor := e }) ⟨range, h.2⟩ false e

theorem CompRecord.lawful_rebase (r : CompRecord) {e : Int} (range : -20 ≤ e ∧ e ≤ 60) :
    (r.rebase e).Lawful true e :=
  CompRecord.Based.recompute (r := { r with trim := clampGain (r.unclamped e), anchor := e })
    ⟨range, clampGain_range _⟩ true e

theorem CompRecord.lawful_startCycle {r : CompRecord} {e : Int} (h : r.Based) (held : Bool) (range : -20 ≤ e ∧ e ≤ 60) :
    (r.startCycle held e).Lawful held e := by
  unfold CompRecord.startCycle
  cases held with
  | true => exact CompRecord.Based.recompute (r := { r with anchor := e }) ⟨range, h.2⟩ true e
  | false => exact h.recompute false e

namespace State.InRange

variable {s t : State} {u : InputNo} {p : Port}

theorem setQueue (h : s.InRange) (u : InputNo) (queue : List Port) : (s.setQueue u queue).InRange := by
  refine h.of_hands (sameButHands_setHolding s u _) fun p i => ?_
  rw [State.setQueue_holds]
  exact h.records p i

theorem withdraw (h : s.InRange) (u : InputNo) (p : Port) : (s.withdraw u p).InRange := h.setQueue u _

/-- A release freezes the records of the holder, who no longer holds; nobody else did (R37, R56). -/
theorem release (h : s.InRange) (hu : s.isLinkedOdd u = false) (held : (s.holding u).holder = some p) :
    (s.release u p).InRange := by
  have freed := State.release_unitBecomes p hu
  refine h.of_hands freed.frame fun q i => ?_
  rw [State.release_record, freed.holds hu]
  by_cases hi : i ∈ s.members u
  · by_cases hq : q = p
    · subst hq
      rw [if_pos ⟨rfl, hi⟩, if_pos hi]
      exact CompRecord.lawful_freeze (h.records q i).based (h.effective i)
    · have other := h.records q i
      rw [State.holds_of_mem hu hi, held, beq_false_of_ne fun e => hq (Option.some.inj e).symm] at other
      rw [if_neg fun own => hq own.1, if_pos hi]
      exact other
  · rw [if_neg fun own => hi own.2, if_neg hi]
    exact h.records q i

/-- A grant of a free unit re-bases the records of the new holder; nobody held before (R36, R57). -/
theorem grant (h : s.InRange) (hu : s.isLinkedOdd u = false) (free : (s.holding u).holder = none) (p : Port) :
    (s.grant u p).InRange := by
  have granted := State.grant_unitBecomes p hu
  refine h.of_hands granted.frame fun q i => ?_
  rw [State.grant_record, granted.holds hu]
  by_cases hi : i ∈ s.members u
  · by_cases hq : q = p
    · subst hq
      rw [if_pos ⟨rfl, hi⟩, if_pos hi, beq_self_eq_true]
      exact CompRecord.lawful_rebase _ (h.effective i)
    · have other := h.records q i
      rw [State.holds_of_mem hu hi, free] at other
      rw [if_neg fun own => hq own.1, if_pos hi, beq_false_of_ne fun e => hq (Option.some.inj e).symm]
      exact other
  · rw [if_neg fun own => hi own.2, if_neg hi]
    exact h.records q i

theorem passOn (h : s.InRange) (hu : s.isLinkedOdd u = false) (held : (s.holding u).holder = some p) :
    (s.passOn u p).InRange := by
  have freed := State.release_unitBecomes p hu
  unfold State.passOn
  dsimp only
  split
  · exact h.release hu held
  · exact (h.release hu held).grant ((freed.frame.isLinkedOdd u).trans hu) (by rw [freed.holding_self]) _

theorem displace (h : s.InRange) (hu : s.isLinkedOdd u = false) (held : (s.holding u).holder = some p) (q : Port) :
    (s.displace u p q).InRange := by
  have queued := State.setQueue_released p (p :: (s.holding u).queue) hu
  have same : (s.release u p).setQueue u (p :: ((s.release u p).holding u).queue) =
      (s.release u p).setQueue u (p :: (s.holding u).queue) := by
    rw [(State.release_unitBecomes p hu).holding_self]
  unfold State.displace
  dsimp only
  rw [same]
  exact ((h.release hu held).setQueue u _).grant ((queued.frame.isLinkedOdd u).trans hu)
    (by rw [queued.holding_self]) q

theorem loseUnit (h : s.InRange) (p : Port) (u : InputNo) : (s.loseUnit p u).InRange := by
  unfold State.loseUnit
  split
  · exact h
  next hu =>
  have hu : s.isLinkedOdd u = false := by simpa using hu
  dsimp only
  split
  · next held => exact (h.passOn hu held).withdraw u p
  · exact h.withdraw u p

theorem loseHoldings (h : s.InRange) (p : Port) : (s.loseHoldings p).InRange :=
  State.InRange.foldl (fun _ u ht => ht.loseUnit p u) allInputs h

/-- Records that are edited are recomputed for a standing that stays (R54, R60, R63). -/
theorem of_edited {l : List InputNo} {g : CompRecord → CompRecord} (h : s.InRange) (c : RecordsEdited s l p g t)
    (based : ∀ r : CompRecord, r.Based → (g r).Based) : t.InRange := by
  have holds (q : Port) (i : InputNo) : t.holds q i = s.holds q i := by
    rw [State.holds_eq_holder, State.holding, c.holdings, c.frame.unitOf]; rfl
  refine h.of_hands c.frame fun q i => ?_
  rw [c.record, holds]
  split
  · exact (based _ (h.records q i).based).recompute _ _
  · exact h.records q i

/-! ### CLAIM, YIELD, TRIM and MUTE -/

theorem decideClaim (h : s.InRange) (p : Port) (c : Byte) : (decideClaim p c s).1.InRange := by
  unfold Machine.decideClaim
  split
  · exact h
  next i _ =>
  split
  · exact h
  next hi =>
  have hi : s.isLinkedOdd i = false := by simpa using hi
  rw [State.unitOf_eq_self hi]
  dsimp only
  split
  · next free => exact h.grant hi free p
  next holder held =>
  split
  · exact h
  split
  · exact h.displace hi held p
  split
  · exact h
  · exact h.setQueue i _

theorem decideYield (h : s.InRange) (p : Port) (c : Byte) : (decideYield p c s).1.InRange := by
  unfold Machine.decideYield
  split
  · exact h
  next i _ =>
  split
  · exact h
  next hi =>
  have hi : s.isLinkedOdd i = false := by simpa using hi
  rw [State.unitOf_eq_self hi]
  dsimp only
  split
  · next held => exact h.passOn hi held
  split
  · exact h.withdraw i p
  · exact h

theorem decideTrim (h : s.InRange) (p : Port) (c : Byte) (a : Half) : (decideTrim p c a s).1.InRange := by
  unfold Machine.decideTrim
  split
  · exact h
  next i _ =>
  split
  · exact h
  · exact h.of_edited (recordsEdited_foldl s p (fun r => { r with trim := clampGain a.toInt }) (s.members_nodup i))
      fun r based => ⟨based.1, clampGain_range _⟩

theorem decideMute (h : s.InRange) (p : Port) (c : Byte) (a : Half) : (decideMute p c a s).1.InRange := by
  unfold Machine.decideMute
  split
  · exact h
  next i _ =>
  dsimp only
  split
  · exact h
  split
  · exact h
  next on _ =>
  exact h.of_edited (recordsEdited_foldl s p (fun r => { r with mute := on }) (s.members_nodup i)) fun _ => id

end State.InRange

/-! ### GAIN (R14) -/

theorem stepOperand_le (a : Half) : stepOperand a ≤ 60 := by
  rw [stepOperand, clamp_eq (by decide)]; omega

/-! ### LINK (R73 to R76) -/

section

variable {s : State} {k : PairNo} {p : Port}

theorem State.unitOf_evenOf (s : State) (k : PairNo) : s.unitOf (evenOf k) = evenOf k :=
  State.unitOf_eq_self (s.isLinkedOdd_evenOf k)

theorem State.unitOf_congr {s t : State} {i : InputNo} (h : t.linked (pairOf i) = s.linked (pairOf i)) :
    t.unitOf i = s.unitOf i := by
  unfold State.unitOf; rw [h]

theorem State.unitOf_of_linked {i : InputNo} (linked : s.linked (pairOf i) = true) :
    s.unitOf i = evenOf (pairOf i) := by simp only [State.unitOf, linked, if_true]

theorem State.unitOf_of_unlinked {i : InputNo} (unlinked : s.linked (pairOf i) = false) : s.unitOf i = i := by
  simp only [State.unitOf, unlinked, Bool.false_eq_true, if_false]

theorem evenOf_ne_oddOf_any (k k' : PairNo) : evenOf k ≠ oddOf k' := fun e => by
  have := congrArg Fin.val e; simp only [evenOf, oddOf] at this; omega

/-- A unit kept on the odd member of a pair is in that pair. -/
theorem State.unitOf_ne_oddOf {i : InputNo} (pair : pairOf i ≠ k) : s.unitOf i ≠ oddOf k := by
  cases linked : s.linked (pairOf i) with
  | true => rw [State.unitOf_of_linked linked]; exact evenOf_ne_oddOf_any _ _
  | false =>
    rw [State.unitOf_of_unlinked linked]
    rintro rfl
    exact pair (pairOf_oddOf k)

/-- Both members of the pair linked by `p` are held by `p`; no other standing changes. -/
theorem State.linkPair_holds (held : heldBy s (evenOf k) p) (q : Port) (j : InputNo) :
    (s.linkPair k p).holds q j = if pairOf j = k then some p == some q else s.holds q j := by
  have linked (k' : PairNo) : (s.linkPair k p).linked k' = if k' = k then true else s.linked k' :=
    (congrArg (·.linked k') (State.linkPair_frame held)).trans (Vector.pick_put _ _ _ _)
  have holding (i : InputNo) : (s.linkPair k p).holding i =
      if i = oddOf k then { holder := some p, queue := [] } else s.holding i :=
    (congrArg (·.holding i) (State.linkPair_frame held)).trans (Vector.pick_put _ _ _ _)
  rw [State.holds_eq_holder, holding]
  by_cases pair : pairOf j = k
  · rw [State.unitOf_of_linked (by rw [linked, if_pos pair]), pair, if_neg (evenOf_ne_oddOf k), if_pos rfl, held]
  · have unit : (s.linkPair k p).unitOf j = s.unitOf j := State.unitOf_congr (by rw [linked, if_neg pair])
    rw [unit, if_neg (State.unitOf_ne_oddOf pair), if_neg pair]
    rfl

/-- The odd member keeps the even member's holder, so that no standing changes. -/
theorem State.unlinkPair_holds (linked : s.linked k = true) (q : Port) (j : InputNo) :
    (s.unlinkPair k).holds q j = s.holds q j := by
  rw [State.unlinkPair_eq_relink, State.holds_eq_holder, State.holds_eq_holder, State.relink_holding]
  by_cases pair : pairOf j = k
  · subst pair
    rw [State.unitOf_of_unlinked (by rw [State.relink_linked, if_pos rfl]), State.unitOf_of_linked linked]
    rcases eq_evenOf_or_oddOf j with even | odd
    · rw [← even, if_neg (even ▸ evenOf_ne_oddOf_any _ _)]
    · rw [if_pos odd]
  · have unit : (s.relink k false).unitOf j = s.unitOf j :=
      State.unitOf_congr (by rw [State.relink_linked, if_neg pair])
    rw [unit, if_neg (State.unitOf_ne_oddOf pair)]

theorem CompRecord.lawful_asHolder {r : CompRecord} (h : r.Based) (e : Int) : (asHolder r).Lawful true e :=
  h.recompute true e

theorem CompRecord.lawful_asNonHolder {r : CompRecord} (h : r.Based) (e : Int) : (asNonHolder r e).Lawful false e := by
  have lawful := h.recompute false e
  rwa [CompRecord.recompute_other] at lawful

/-- The odd member takes the even one's requested values in range, keeping its own E_n. -/
theorem Preamp.InRange.requestedOf {x y : Preamp} (hx : x.InRange) (hy : y.InRange) : (x.requestedOf y).InRange :=
  ⟨hy.1, hx.2⟩

namespace State.InRange

/-- The records copied to the odd member are recomputed on its own E_n, for the standing they have there (R75). -/
theorem copiedRecord (h : s.InRange) (k : PairNo) (p q : Port) :
    (s.copiedRecord k p q).Lawful (some p == some q) (s.effective (oddOf k)) := by
  have range := h.effective (oddOf k)
  have based := (h.records q (evenOf k)).based
  rw [State.copiedRecord_eq]
  dsimp only
  by_cases own : q = p
  · subst own
    rw [if_pos rfl, beq_self_eq_true]
    refine CompRecord.lawful_asHolder ?_ _
    exact ⟨range, based.2⟩
  · rw [if_neg own, beq_false_of_ne fun e => own (Option.some.inj e).symm]
    exact CompRecord.lawful_asNonHolder based _

theorem linkPair (h : s.InRange) (held : heldBy s (evenOf k) p) : (s.linkPair k p).InRange := by
  have frame := State.linkPair_frame held
  have input (i : InputNo) : (s.linkPair k p).input i =
      if i = oddOf k then (s.input (oddOf k)).requestedOf (s.input (evenOf k)) else s.input i :=
    (congrArg (·.input i) frame).trans (Vector.pick_put _ _ _ _)
  have effective (i : InputNo) : (s.linkPair k p).effective i = s.effective i := by
    rw [State.effective, input]
    split
    · next odd => rw [odd]; rfl
    · rfl
  refine ⟨fun i => ?_, ?_, fun q j => ?_, ?_⟩
  · rw [input]
    split
    · exact (h.inputs _).requestedOf (h.inputs _)
    · exact h.inputs i
  · rw [show (s.linkPair k p).store = (s.conformed k).store from congrArg (·.store) frame, State.conformed_store,
      ← Store.noteChange_eq_noted]
    refine h.steps.noteChange ?_
    dsimp only
    split
    · exact h.steps.1
    · exact stepsInRange_put h.steps.1 _ (h.inputs _).1
  · rw [effective, State.linkPair_record held, State.linkPair_holds held]
    by_cases odd : j = oddOf k
    · rw [if_pos odd, odd, if_pos (pairOf_oddOf k)]
      exact h.copiedRecord k p q
    · rw [if_neg odd]
      by_cases pair : pairOf j = k
      · have even : j = evenOf k := pair ▸ (eq_evenOf_or_oddOf j).resolve_right (pair ▸ odd)
        have lawful := h.records q j
        rw [State.holds_eq_holder, even, State.unitOf_evenOf, held] at lawful
        rw [if_pos pair, even]
        exact lawful
      · rw [if_neg pair]
        exact h.records q j
  · rw [show (s.linkPair k p).arbiter.handed = s.arbiter.handed from congrArg (·.arbiter.handed) frame]
    exact h.handed

theorem unlinkPair (h : s.InRange) (linked : s.linked k = true) : (s.unlinkPair k).InRange := by
  refine ⟨h.inputs, h.steps.noteChange h.steps.1, fun q j => ?_, h.handed⟩
  rw [State.unlinkPair_holds linked]
  exact h.records q j

end State.InRange

end

end Sys2Proof.Machine
end

section
/-! SUPPORT. Groups, maps, watches and the front-end record in the store (R8 to R10, R18, R70, R111, R157, R160, R161,
R171, R172): the laws of each by itself, and that each operation which changes what they read keeps them. -/

namespace Sys2Proof.Machine

open Sys2Proof.Safety Sys2Proof.Claims

/-! ### One phantom group (R8 to R11) -/

section

variable {g : PhantomGroup}

/-- A timer that runs in its own state does not run in another. -/
theorem timer_stopped {t : Timer} {inState : Prop} (h : t.isSome = true ↔ inState) (other : ¬ inState) : t = none :=
  Option.not_isSome_iff_eq_none.mp (mt h.mp other)

theorem groupOk_turnOn (ok : groupOk g) : groupOk g.turnOn := by
  obtain ⟨charge, discharge, low⟩ := ok
  cases state : g.state <;> simp_all [PhantomGroup.turnOn, groupOk]

theorem groupOk_turnOff (ok : groupOk g) : groupOk g.turnOff := by
  obtain ⟨charge, discharge, low⟩ := ok
  cases state : g.state <;> simp_all [PhantomGroup.turnOff, groupOk]

theorem groupOk_enterFault (ok : groupOk g) (state : g.state ≠ .discharging) : groupOk g.enterFault := by
  obtain ⟨-, discharge, -⟩ := ok
  simp [PhantomGroup.enterFault, groupOk, timer_stopped discharge state]

theorem groupOk_enterOn (ok : groupOk g) (state : g.state = .charging) : groupOk g.enterOn := by
  obtain ⟨-, discharge, -⟩ := ok
  cases sense : g.sense <;>
    simp [PhantomGroup.enterOn, groupOk, sense, timer_stopped discharge (by simp [state])]

theorem groupOk_chargeExpired (ok : groupOk g) : groupOk g.chargeExpired := by
  unfold PhantomGroup.chargeExpired
  split
  · next running =>
    split
    · exact groupOk_enterOn ok running.1
    · exact groupOk_enterFault ok (by simp [running.1])
  · exact ok

theorem groupOk_dischargeExpired (ok : groupOk g) : groupOk g.dischargeExpired := by
  unfold PhantomGroup.dischargeExpired
  split
  · next running =>
    obtain ⟨charge, -, low⟩ := ok
    simp [groupOk, timer_stopped charge (by simp [running.1]), timer_stopped low (by simp [running.1])]
  · exact ok

theorem groupOk_lowSenseExpired (ok : groupOk g) : groupOk g.lowSenseExpired := by
  unfold PhantomGroup.lowSenseExpired
  split
  · next running => exact groupOk_enterFault ok (by simp [running.1])
  · exact ok

theorem groupOk_sensed (ok : groupOk g) (level : Sense) : groupOk (g.sensed level) := by
  obtain ⟨charge, discharge, low⟩ := ok
  unfold PhantomGroup.sensed
  split
  · exact ⟨charge, discharge, low⟩
  split
  · next on => cases level <;> exact ⟨charge, discharge, by simp [on]⟩
  · next off => exact ⟨charge, discharge, low.trans (by simp [off])⟩

theorem groupOk_startGroup (r : StoredFrontEnd) (n : GroupNo) (sense : Sense) : groupOk (startGroup r n sense) := by
  rw [startGroup_eq]
  cases r.phantom.pick n <;> simp [groupOk]

/-- A change of the sense level is no change of phantom requested. -/
theorem PhantomGroup.sensed_state (g : PhantomGroup) (level : Sense) : (g.sensed level).state = g.state := by
  unfold PhantomGroup.sensed
  split
  · rfl
  split <;> rfl

end

/-! ### One port's maps (R111) -/

/-- The live map fits, and so does a draft that waits to go live. -/
def PortMaps.Fits (m : PortMaps) : Prop :=
  payload m.live ≤ 7168 ∧ (m.commitPending = true → payload m.draft ≤ 7168)

theorem PortMaps.Fits.goLive {m : PortMaps} (h : m.Fits) : m.goLive.Fits := by
  obtain ⟨live, draft⟩ := h
  unfold PortMaps.goLive
  split
  · next waits => exact ⟨draft waits, by simp⟩
  · exact ⟨live, draft⟩

/-- The draft of maps with no commit pending may be anything. -/
theorem PortMaps.Fits.withDraft {m : PortMaps} (h : m.Fits) (d : SlotMap) :
    PortMaps.Fits { m with draft := d, commitPending := false } := ⟨h.1, by simp⟩

theorem PortMaps.reset_fits : PortMaps.reset.Fits := by
  have empty : payload PortMaps.reset.live = 0 := by decide
  exact ⟨by omega, by simp [PortMaps.reset]⟩

/-! ### One watch (R157, R160, R161) -/

theorem watchOk_reset : watchOk .reset := by
  refine ⟨by decide, by decide, ?_, fun _ => ⟨rfl, rfl, rfl⟩, fun _ => rfl, fun _ => rfl⟩
  decide

theorem watchOk_written (i : InputNo) (a b : Half) : watchOk (writtenWatch i a b) := by
  have threshold : (writtenWatch i a b).threshold = max (-160) (min 0 b.toInt) := clamp_eq (by decide) _
  exact ⟨by omega, by omega, rfl, fun _ => ⟨rfl, rfl, rfl⟩, fun _ => rfl, fun _ => rfl⟩

theorem watchOk_cleared {w : Watch} (ok : watchOk w) : watchOk w.cleared := by
  obtain ⟨low, high, level, disabled, -, -⟩ := ok
  exact ⟨low, high, level, fun h => ⟨(disabled h).1, rfl, rfl⟩, fun _ => rfl, fun _ => rfl⟩

theorem watchOk_evaluate {w : Watch} (ok : watchOk w) (peak : Option Nat) : watchOk (w.evaluate peak) := by
  obtain ⟨low, high, level, disabled, latched, fault⟩ := ok
  cases enabled : w.enabled with
  | false =>
    have same : w.evaluate peak = w := by simp [Watch.evaluate, enabled]
    rw [same]
    exact ⟨low, high, level, disabled, latched, fault⟩
  | true =>
    have still : (w.evaluate peak).enabled = true := (w.evaluate_enabled peak).trans enabled
    refine ⟨?_, ?_, ?_, by simp [still], ?_, ?_⟩ <;> simp only [Watch.evaluate, enabled, if_true]
    · exact low
    · exact high
    · exact level
    · intro off; simp [latched off, off]
    · intro off; simp [fault off, off]

/-! ### The banks together -/

/-- Groups, maps and watches are lawful, each by itself. -/
structure State.BanksLawful (s : State) : Prop where
  groups : groupsOk s
  maps : ∀ p, (s.mapsOf p).Fits
  watches : watchesOk s

namespace State.BanksLawful

variable {s t : State}

theorem of_eq (h : s.BanksLawful) (groups : t.frontEnd.groups = s.frontEnd.groups) (maps : t.maps = s.maps)
    (watches : t.watches = s.watches) : t.BanksLawful where
  groups g := by rw [State.group, groups]; exact h.groups g
  maps p := by rw [State.mapsOf, maps]; exact h.maps p
  watches p w := by rw [State.watch, watches]; exact h.watches p w

theorem setGroup (h : s.BanksLawful) (g : GroupNo) {x : PhantomGroup} (ok : groupOk x) :
    (s.setGroup g x).BanksLawful := by
  refine ⟨fun j => ?_, h.maps, h.watches⟩
  rw [State.group_setGroup]
  split
  · exact ok
  · exact h.groups j

theorem changeGroup (h : s.BanksLawful) (g : GroupNo) {x : PhantomGroup} (ok : groupOk x) :
    (s.changeGroup g x).BanksLawful := by
  obtain ⟨frame, -, groups, -⟩ := s.changeGroup_becomes g x
  have maps := congrArg State.maps frame
  have watches := congrArg State.watches frame
  exact (h.setGroup g ok).of_eq groups maps watches

theorem setMaps (h : s.BanksLawful) (p : Port) {m : PortMaps} (fits : m.Fits) : (s.setMaps p m).BanksLawful := by
  refine ⟨h.groups, fun q => ?_, h.watches⟩
  rw [State.mapsOf_setMaps]
  split
  · exact fits
  · exact h.maps q

theorem withWatches (h : s.BanksLawful) (p : Port) {x : Vector Watch 8} (ok : ∀ w, watchOk (x.pick w)) :
    State.BanksLawful { s with watches := s.watches.put p x } := by
  refine ⟨h.groups, h.maps, fun q w => ?_⟩
  rw [State.watch, Vector.pick_put]
  split
  · exact ok w
  · exact h.watches q w

theorem setWatch (h : s.BanksLawful) (p : Port) (w : WatchNo) {x : Watch} (ok : watchOk x) :
    (s.setWatch p w x).BanksLawful := by
  refine h.withWatches p fun j => ?_
  rw [Vector.pick_put]
  split
  · exact ok
  · exact h.watches p j

theorem evaluateWatches (h : s.BanksLawful) : s.evaluateWatches.BanksLawful := by
  refine ⟨h.groups, h.maps, fun p w => ?_⟩
  rw [State.evaluateWatches_watch]
  exact watchOk_evaluate (h.watches p w) _

end State.BanksLawful

end Sys2Proof.Machine
end

section
/-! SUPPORT. The working copy of the front-end record and its deferred write (R18, R70, R171, R172): that each change of
a stored value enters the copy and restarts the timers. -/

namespace Sys2Proof.Machine

open Sys2Proof.Safety Sys2Proof.Claims

/-! ### The deferred write (R171, R172) -/

/-- Both timers run together, the dirty flag is set while they or a write run, and a running write has seen a change
exactly while they run. -/
structure Store.Deferred (st : Store) : Prop where
  together : st.quietTimer.isSome = st.ceilingTimer.isSome
  dirty : st.dirty = true ↔ st.quietTimer.isSome = true ∨ st.frontEndWrite.isSome = true
  changed : ∀ w, st.frontEndWrite = some w → (w.changed = true ↔ st.quietTimer.isSome = true)

namespace Store.Deferred

variable {st : Store}

/-- The ceiling timer is left to run where it runs, and started where it does not. -/
theorem noteChange (h : st.Deferred) (e : StoredFrontEnd) : (st.noteChange e).Deferred := by
  obtain ⟨together, dirty, changed⟩ := h
  cases write : st.frontEndWrite with
  | none =>
    cases clean : st.dirty with
    | false => rw [Store.noteChange_clean st e write clean]; exact ⟨rfl, by simp, by simp [write]⟩
    | true =>
      have runs : st.ceilingTimer.isSome = true := by
        rw [← together]; simpa [clean, write] using dirty
      rw [Store.noteChange_dirty st e write clean]
      exact ⟨by simp [runs], by simp [clean], by simp [write]⟩
  | some w =>
    rw [Store.noteChange_writing st e write]
    refine ⟨?_, by simp, by simp⟩
    cases again : w.changed with
    | false => simp
    | true =>
      have runs : st.ceilingTimer.isSome = true := by
        rw [← together]; exact (changed w write).mp again
      simp [runs]

theorem beginWrite (h : st.Deferred) (timer : st.quietTimer.isSome = true) : st.beginWrite.Deferred := by
  refine ⟨rfl, ?_, ?_⟩
  · simpa [Store.beginWrite] using h.dirty.mpr (.inl timer)
  · rintro _ ⟨⟩
    simp [Store.beginWrite]

theorem frontEndWritten (h : st.Deferred) {w : FrontEndWrite} (running : st.frontEndWrite = some w) :
    (st.frontEndWritten w).Deferred := by
  refine ⟨h.together, ?_, by simp [Store.frontEndWritten]⟩
  simpa [Store.frontEndWritten] using h.changed w running

theorem start (st : Store) : st.start.Deferred := ⟨rfl, by simp [Store.start], by simp [Store.start]⟩

end Store.Deferred

/-- What the laws of the front-end record read of the store. -/
def Store.deferral (st : Store) : StoredFrontEnd × FrontEndCopy × Option FrontEndWrite × Bool × Timer × Timer :=
  (st.frontEnd, st.frontEndCopy, st.frontEndWrite, st.dirty, st.quietTimer, st.ceilingTimer)

theorem Store.deferral_iff {st st' : Store} :
    st'.deferral = st.deferral ↔ st'.frontEnd = st.frontEnd ∧ st'.frontEndCopy = st.frontEndCopy ∧
      st'.frontEndWrite = st.frontEndWrite ∧ st'.dirty = st.dirty ∧ st'.quietTimer = st.quietTimer ∧
      st'.ceilingTimer = st.ceilingTimer := by
  simp only [Store.deferral, Prod.mk.injEq]

/-! ### The working copy (R18, R70) -/

/-- The values of an input that are stored (R18). -/
def Preamp.stored (x : Preamp) : Nat × Bool × Mode := (x.gainTarget, x.padInEffect, x.modeInEffect)

/-- The record holds the stored values of the state. -/
structure StoredFrontEnd.Agrees (r : StoredFrontEnd) (s : State) : Prop where
  inputs : ∀ i, (r.steps.pick i, r.pads.pick i, r.modes.pick i) = (s.input i).stored
  groups : ∀ g, r.phantom.pick g = (s.group g).state.live
  links : ∀ k, r.linked.pick k = s.linked k

theorem StoredFrontEnd.Agrees.of_eq {r : StoredFrontEnd} {s t : State} (h : r.Agrees s)
    (inputs : ∀ i, (t.input i).stored = (s.input i).stored)
    (groups : ∀ g, (t.group g).state = (s.group g).state) (linked : t.arbiter.linked = s.arbiter.linked) :
    r.Agrees t where
  inputs i := (h.inputs i).trans (inputs i).symm
  groups g := by rw [groups]; exact h.groups g
  links k := by rw [State.linked, linked]; exact h.links k

/-- The working copy agrees with the state, and its write is deferred lawfully. -/
structure State.CopyKept (s : State) : Prop where
  agrees : s.store.frontEnd.Agrees s
  deferred : s.store.Deferred

theorem State.copyKept_iff (s : State) :
    workingCopyOk s ∧ deferredWriteOk s ↔ (s.phase = .running → s.CopyKept) := by
  constructor
  · rintro ⟨copy, deferred⟩ running
    obtain ⟨inputs, groups, links⟩ := copy running
    obtain ⟨together, dirty, changed⟩ := deferred running
    refine ⟨⟨fun i => ?_, groups, links⟩, ⟨together, dirty, changed⟩⟩
    obtain ⟨step, pad, mode⟩ := inputs i
    rw [step, pad, mode, Preamp.stored]
  · intro kept
    refine ⟨fun running => ?_, fun running => ?_⟩
    · obtain ⟨inputs, groups, links⟩ := (kept running).agrees
      exact ⟨fun i => by simpa only [Preamp.stored, Prod.mk.injEq] using inputs i, groups, links⟩
    · obtain ⟨together, dirty, changed⟩ := (kept running).deferred
      exact ⟨together, dirty, changed⟩

namespace State.CopyKept

variable {s t : State}

/-- A change of what the laws do not read. -/
theorem of_eq (h : s.CopyKept) (inputs : ∀ i, (t.input i).stored = (s.input i).stored)
    (groups : ∀ g, (t.group g).state = (s.group g).state) (linked : t.arbiter.linked = s.arbiter.linked)
    (store : t.store.deferral = s.store.deferral) : t.CopyKept := by
  obtain ⟨agrees, together, dirty, changed⟩ := h
  obtain ⟨record, -, write, flag, quiet, ceiling⟩ := Store.deferral_iff.mp store
  refine ⟨record ▸ agrees.of_eq inputs groups linked, ?_, ?_, ?_⟩
  · rw [quiet, ceiling]; exact together
  · rw [flag, quiet, write]; exact dirty
  · rw [write, quiet]; exact changed

/-- A change of stored values that is handed to the store. -/
theorem noted (h : s.CopyKept) {e : StoredFrontEnd} (store : t.store = s.store.noteChange e) (agrees : e.Agrees t) :
    t.CopyKept := by
  refine ⟨?_, ?_⟩
  · rw [store]; exact agrees
  · rw [store]; exact h.deferred.noteChange e

theorem foldl {α : Type} {f : State → α → State} (hf : ∀ s a, s.CopyKept → (f s a).CopyKept) (l : List α)
    (h : s.CopyKept) : (l.foldl f s).CopyKept := by
  induction l generalizing s with
  | nil => exact h
  | cons a l ih => exact ih (hf s a h)

theorem of_hands (h : s.CopyKept) (frame : SameButHands s t) : t.CopyKept := by
  have groups := congrArg (·.frontEnd.groups) frame
  have store := congrArg (·.store) frame
  exact h.of_eq (fun i => by rw [frame.input]) (fun g => congrArg (fun x => (x.pick g).state) groups) frame.linkedVec
    (congrArg Store.deferral store)

theorem setInput (h : s.CopyKept) {i : InputNo} {x : Preamp} (stored : x.stored = (s.input i).stored) :
    (s.setInput i x).CopyKept := by
  refine h.of_eq (fun j => ?_) (fun _ => rfl) rfl rfl
  rw [State.input_setInput]
  split
  · next here => rw [stored, here]
  · rfl

theorem setGainTarget (h : s.CopyKept) (i : InputNo) (n : Nat) : (s.setGainTarget i n).CopyKept := by
  unfold State.setGainTarget
  split
  · exact h
  · refine h.noted (e := { s.store.frontEnd with steps := s.store.frontEnd.steps.put i n }) rfl
      ⟨fun j => ?_, h.agrees.groups, h.agrees.links⟩
    rw [State.noteChange_input, State.input_setInput, Vector.pick_put]
    have copied := h.agrees.inputs j
    simp only [Preamp.stored, Prod.mk.injEq] at copied
    obtain ⟨step, pad, mode⟩ := copied
    by_cases here : j = i
    · subst here; simp only [if_true, Preamp.stored, pad, mode]
    · simp only [here, if_false, Preamp.stored, step, pad, mode]

theorem requestPad (h : s.CopyKept) (i : InputNo) (on : Bool) : (s.requestPad i on).CopyKept := h.setInput rfl

theorem requestMode (h : s.CopyKept) (i : InputNo) (m : Mode) : (s.requestMode i m).CopyKept := h.setInput rfl

theorem setGroup (h : s.CopyKept) (g : GroupNo) {x : PhantomGroup} (state : x.state = (s.group g).state) :
    (s.setGroup g x).CopyKept := by
  refine h.of_eq (fun _ => rfl) (fun j => ?_) rfl rfl
  rw [State.group_setGroup]
  split
  · next here => rw [state, here]
  · rfl

theorem changeGroup (h : s.CopyKept) (g : GroupNo) (x : PhantomGroup) : (s.changeGroup g x).CopyKept := by
  obtain ⟨frame, -, groups, input, store⟩ := s.changeGroup_becomes g x
  have arbiter := congrArg State.arbiter frame
  have stored (i : InputNo) : ((s.changeGroup g x).input i).stored = (s.input i).stored := by
    rw [input]; split <;> rfl
  have group (j : GroupNo) : (s.changeGroup g x).group j = if j = g then x else s.group j := by
    rw [State.group, groups]; exact Vector.pick_put _ _ _ _
  have links (k : PairNo) : s.store.frontEnd.linked.pick k = (s.changeGroup g x).linked k := by
    rw [State.linked, arbiter]; exact h.agrees.links k
  rw [← PhantomGroup.live_eq, ← PhantomGroup.live_eq, ← Store.noteChange_eq_noted] at store
  by_cases same : (s.group g).state.live = x.state.live
  · rw [if_pos same] at store
    refine ⟨?_, by rw [store]; exact h.deferred⟩
    rw [store]
    refine ⟨fun i => (h.agrees.inputs i).trans (stored i).symm, fun j => ?_, links⟩
    rw [group, h.agrees.groups]
    split
    · next here => rw [here, same]
    · rfl
  · rw [if_neg same] at store
    refine h.noted store ⟨fun i => (h.agrees.inputs i).trans (stored i).symm, fun j => ?_, links⟩
    rw [group, Vector.pick_put]
    split
    · rfl
    · exact h.agrees.groups j

/-! ### LINK (R70, R74) -/

theorem relink (h : s.CopyKept) (k : PairNo) (on : Bool) : (s.relink k on).CopyKept := by
  refine h.noted (e := { s.store.frontEnd with linked := s.store.frontEnd.linked.put k on }) rfl
    ⟨h.agrees.inputs, h.agrees.groups, fun j => ?_⟩
  rw [State.relink_linked, Vector.pick_put]
  split
  · rfl
  · exact h.agrees.links j

theorem conformAnalog (h : s.CopyKept) (k : PairNo) : (s.conformAnalog k).CopyKept :=
  ((h.setGainTarget (oddOf k) _).requestPad (oddOf k) _).requestMode (oddOf k) _

theorem copyRecords (h : s.CopyKept) (k : PairNo) (p : Port) : (s.copyRecords k p).CopyKept := by
  have written (t : State) (q : Port) (ht : t.CopyKept) :
      (t.setRecord q (oddOf k) (s.copiedRecord k p q)).CopyKept := ht.of_hands rfl
  exact State.CopyKept.foldl written allPorts h

theorem linkPair (h : s.CopyKept) {k : PairNo} {p : Port} (held : heldBy s (evenOf k) p) :
    (s.linkPair k p).CopyKept := by
  rw [State.linkPair_eq held]
  exact ((h.relink k true).conformAnalog k).copyRecords k p

theorem unlinkPair (h : s.CopyKept) (k : PairNo) : (s.unlinkPair k).CopyKept := h.relink k false

end State.CopyKept

end Sys2Proof.Machine
end

section
/-! SUPPORT. The laws of the analog state, of the records, of groups, maps and watches and of the front-end record
together: what they read of a state, and that every decision of a request keeps them. -/

namespace Sys2Proof.Machine

open Sys2Proof.Safety Sys2Proof.Claims

/-! ### The laws together, and what they read -/

/-- The laws of a part that runs. -/
structure State.Sound (s : State) : Prop where
  inRange : s.InRange
  banks : s.BanksLawful
  copy : s.CopyKept

/-- What the laws read: front end, gain arbiter, maps, watches, and the front-end record in the store. -/
def State.interior (s : State) : FrontEnd × Arbiter × Vector PortMaps 4 × Vector (Vector Watch 8) 4 × StoredFrontEnd ×
    FrontEndCopy × Option FrontEndWrite × Bool × Timer × Timer :=
  (s.frontEnd, s.arbiter, s.maps, s.watches, s.store.deferral)

theorem Store.StepsInRange.of_deferral {st st' : Store} (h : st.StepsInRange) (same : st'.deferral = st.deferral) :
    st'.StepsInRange := by
  obtain ⟨record, copy, write, -⟩ := Store.deferral_iff.mp same
  unfold Store.StepsInRange
  rw [record, copy, write]
  exact h

theorem State.interior_iff {s t : State} :
    t.interior = s.interior ↔ t.frontEnd = s.frontEnd ∧ t.arbiter = s.arbiter ∧ t.maps = s.maps ∧
      t.watches = s.watches ∧ t.store.deferral = s.store.deferral := by
  simp only [State.interior, Prod.mk.injEq]

/-- The laws cannot tell states with the same interior apart. -/
theorem State.Sound.of_interior {s t : State} (h : s.Sound) (same : t.interior = s.interior) : t.Sound := by
  obtain ⟨front, arbiter, maps, watches, store⟩ := State.interior_iff.mp same
  have input (i : InputNo) : t.input i = s.input i := by rw [State.input, front]; rfl
  have groups : t.frontEnd.groups = s.frontEnd.groups := congrArg FrontEnd.groups front
  exact
    { inRange := h.inRange.of_arbiter arbiter (fun i => by rw [input]; exact h.inRange.inputs i)
        (fun i => by rw [State.effective, input]; rfl) (h.inRange.steps.of_deferral store)
      banks := h.banks.of_eq groups maps watches
      copy := h.copy.of_eq (fun i => by rw [input]) (fun g => congrArg (fun x => (x.pick g).state) groups)
        (congrArg Arbiter.linked arbiter) store }

theorem ClockOnly.interior {s t : State} (h : ClockOnly s t) : t.interior = s.interior := by rw [h]; rfl

theorem State.BanksLawful.of_hands {s t : State} (h : s.BanksLawful) (frame : SameButHands s t) : t.BanksLawful := by
  have groups := congrArg (·.frontEnd.groups) frame
  exact h.of_eq groups frame.maps frame.watches

/-! ### Decisions that change holders and records alone -/

section

variable (s : State) (u : InputNo) (p : Port)

theorem sameButHands_grant : SameButHands s (s.grant u p) :=
  (sameButHands_setHolding s u _).trans (s.handed_grant u p).frame

theorem sameButHands_passOn : SameButHands s (s.passOn u p) := by
  have freed := (s.handed_release u p).frame
  unfold State.passOn
  dsimp only
  split
  · exact freed
  · exact freed.trans (sameButHands_grant _ u _)

theorem sameButHands_displace (q : Port) : SameButHands s (s.displace u p q) :=
  ((s.handed_release u p).frame.trans (sameButHands_setHolding _ u _)).trans (sameButHands_grant _ u q)

theorem sameButHands_withdraw : SameButHands s (s.withdraw u p) := sameButHands_setHolding s u _

theorem sameButHands_loseUnit : SameButHands s (s.loseUnit p u) := by
  unfold State.loseUnit
  split
  · exact .refl s
  · dsimp only
    split
    · exact (sameButHands_passOn s u p).trans (sameButHands_withdraw _ u p)
    · exact sameButHands_withdraw s u p

theorem sameButHands_loseHoldings : SameButHands s (s.loseHoldings p) := by
  have units (l : List InputNo) (s : State) : SameButHands s (l.foldl (fun t u => t.loseUnit p u) s) := by
    induction l generalizing s with
    | nil => exact .refl s
    | cons u l ih => exact (sameButHands_loseUnit s u p).trans (ih _)
  exact units allInputs s

theorem sameButHands_decideClaim (c : Byte) : SameButHands s (decideClaim p c s).1 := by
  unfold decideClaim
  split
  · exact .refl s
  split
  · exact .refl s
  dsimp only
  split
  · exact sameButHands_grant s _ p
  split
  · exact .refl s
  split
  · exact sameButHands_displace s _ _ p
  split
  · exact .refl s
  · exact sameButHands_setHolding s _ _

theorem sameButHands_decideYield (c : Byte) : SameButHands s (decideYield p c s).1 := by
  unfold decideYield
  split
  · exact .refl s
  split
  · exact .refl s
  dsimp only
  split
  · exact sameButHands_passOn s _ p
  split
  · exact sameButHands_withdraw s _ p
  · exact .refl s

theorem sameButHands_decideTrim (c : Byte) (a : Half) : SameButHands s (decideTrim p c a s).1 := by
  unfold decideTrim
  split
  · exact .refl s
  next i _ =>
  split
  · exact .refl s
  · exact (recordsEdited_foldl s p (fun r => { r with trim := clampGain a.toInt }) (s.members_nodup i)).frame

theorem sameButHands_decideMute (c : Byte) (a : Half) : SameButHands s (decideMute p c a s).1 := by
  unfold decideMute
  split
  · exact .refl s
  next i _ =>
  dsimp only
  split
  · exact .refl s
  split
  · exact .refl s
  next on _ =>
  exact (recordsEdited_foldl s p (fun r => { r with mute := on }) (s.members_nodup i)).frame

end

/-! ### Settings, rounding and FACTORY change nothing that the laws read -/

theorem Store.putSettings_deferral (st : Store) (x : Settings) : (st.putSettings x).deferral = st.deferral := by
  unfold Store.putSettings
  split
  · rfl
  split <;> rfl

theorem decideSetting_interior (s : State) (c : Byte) (a : Half) : (decideSetting c a s).1.interior = s.interior := by
  have stored (x : Settings) : State.interior { s with store := s.store.putSettings x } = s.interior :=
    State.interior_iff.mpr ⟨rfl, rfl, rfl, rfl, s.store.putSettings_deferral x⟩
  unfold decideSetting
  split
  · rfl
  dsimp only
  split
  · rfl
  split
  · rfl
  dsimp only
  split
  · exact (clockOnly_clockListWritten _).interior.trans (stored _)
  · exact stored _

theorem decideRound_interior (s : State) (p : Port) (a : Half) : (decideRound p a s).1.interior = s.interior := by
  unfold decideRound; split <;> rfl

theorem decideFactory_interior (s : State) (p : Port) : (decideFactory p s).1.interior = s.interior := by
  unfold decideFactory; split <;> rfl

namespace State.Sound

variable {s : State} (p : Port)

/-! ### Each decision -/

theorem decideClaim (h : s.Sound) (c : Byte) : (decideClaim p c s).1.Sound :=
  have frame := sameButHands_decideClaim s p c
  ⟨h.inRange.decideClaim p c, h.banks.of_hands frame, h.copy.of_hands frame⟩

theorem decideYield (h : s.Sound) (c : Byte) : (decideYield p c s).1.Sound :=
  have frame := sameButHands_decideYield s p c
  ⟨h.inRange.decideYield p c, h.banks.of_hands frame, h.copy.of_hands frame⟩

theorem decideTrim (h : s.Sound) (c : Byte) (a : Half) : (decideTrim p c a s).1.Sound :=
  have frame := sameButHands_decideTrim s p c a
  ⟨h.inRange.decideTrim p c a, h.banks.of_hands frame, h.copy.of_hands frame⟩

theorem decideMute (h : s.Sound) (c : Byte) (a : Half) : (decideMute p c a s).1.Sound :=
  have frame := sameButHands_decideMute s p c a
  ⟨h.inRange.decideMute p c a, h.banks.of_hands frame, h.copy.of_hands frame⟩

/-- A change of several inputs, one after another. -/
theorem foldl {α : Type} {f : State → α → State} (hf : ∀ s a, s.Sound → (f s a).Sound) (l : List α) (h : s.Sound) :
    (l.foldl f s).Sound := by
  induction l generalizing s with
  | nil => exact h
  | cons a l ih => exact ih (hf s a h)

theorem setGainTarget (h : s.Sound) (i : InputNo) {n : Nat} (step : n ≤ 60) : (s.setGainTarget i n).Sound := by
  refine ⟨h.inRange.setGainTarget i step, ?_, h.copy.setGainTarget i n⟩
  unfold State.setGainTarget
  split
  · exact h.banks
  · exact h.banks.of_eq rfl rfl rfl

theorem requestPad (h : s.Sound) (i : InputNo) (on : Bool) : (s.requestPad i on).Sound :=
  ⟨h.inRange.requestPad i on, h.banks.of_eq rfl rfl rfl, h.copy.requestPad i on⟩

theorem requestMode (h : s.Sound) (i : InputNo) (m : Mode) : (s.requestMode i m).Sound :=
  ⟨h.inRange.requestMode i m, h.banks.of_eq rfl rfl rfl, h.copy.requestMode i m⟩

theorem changeGroup (h : s.Sound) (g : GroupNo) {x : PhantomGroup} (ok : groupOk x) : (s.changeGroup g x).Sound :=
  ⟨h.inRange.changeGroup g x, h.banks.changeGroup g ok, h.copy.changeGroup g x⟩

theorem decideGain (h : s.Sound) (c : Byte) (a : Half) : (decideGain p c a s).1.Sound := by
  unfold Machine.decideGain
  split
  · exact h
  dsimp only
  split
  · exact h
  split
  · exact h
  · exact foldl (fun _ i ht => ht.setGainTarget i (stepOperand_le a)) _ h

theorem decidePad (h : s.Sound) (c : Byte) (a : Half) : (decidePad p c a s).1.Sound := by
  unfold Machine.decidePad
  split
  · exact h
  dsimp only
  split
  · exact h
  split
  · exact h
  split
  · exact h
  · exact foldl (fun _ i ht => ht.requestPad i _) _ h

theorem decideMode (h : s.Sound) (c : Byte) (a : Half) : (decideMode p c a s).1.Sound := by
  unfold Machine.decideMode
  split
  · exact h
  dsimp only
  split
  · exact h
  split
  · exact h
  split
  · exact h
  · exact foldl (fun _ i ht => ht.requestMode i _) _ h

theorem decidePhantom (h : s.Sound) (c : Byte) (a : Half) : (decidePhantom p c a s).1.Sound := by
  unfold Machine.decidePhantom
  split
  · exact h
  next g _ =>
  dsimp only
  split
  · exact h
  split
  · exact h
  refine h.changeGroup g ?_
  split
  · exact groupOk_turnOn (h.banks.groups g)
  · exact groupOk_turnOff (h.banks.groups g)

theorem linkPair (h : s.Sound) {k : PairNo} (held : heldBy s (evenOf k) p) : (s.linkPair k p).Sound := by
  have frame := State.linkPair_frame held
  have groups := congrArg (·.frontEnd.groups) frame
  have maps := congrArg (·.maps) frame
  have watches := congrArg (·.watches) frame
  exact ⟨h.inRange.linkPair held, h.banks.of_eq groups maps watches, h.copy.linkPair held⟩

theorem unlinkPair (h : s.Sound) {k : PairNo} (linked : s.linked k = true) : (s.unlinkPair k).Sound :=
  ⟨h.inRange.unlinkPair linked, h.banks.of_eq rfl rfl rfl, h.copy.unlinkPair k⟩

theorem decideLink (h : s.Sound) (c : Byte) (a : Half) : (decideLink p c a s).1.Sound := by
  unfold Machine.decideLink
  split
  · exact h
  next k _ =>
  dsimp only
  split
  · exact h
  · split
    · exact h
    next held =>
    split
    · exact h
    dsimp only
    split
    · exact h
    · exact h.linkPair p (not_not.mp held)
  · split
    · exact h
    dsimp only
    split
    · next linked => exact h.unlinkPair linked
    · exact h

theorem setMaps (h : s.Sound) {m : PortMaps} (fits : m.Fits) : (s.setMaps p m).Sound :=
  ⟨h.inRange.of_arbiter rfl h.inRange.inputs (fun _ => rfl) h.inRange.steps, h.banks.setMaps p fits,
    h.copy.of_eq (fun _ => rfl) (fun _ => rfl) rfl rfl⟩

theorem withWatches (h : s.Sound) {x : Vector Watch 8} (ok : ∀ w, watchOk (x.pick w)) :
    State.Sound { s with watches := s.watches.put p x } :=
  ⟨h.inRange.of_arbiter rfl h.inRange.inputs (fun _ => rfl) h.inRange.steps, h.banks.withWatches p ok,
    h.copy.of_eq (fun _ => rfl) (fun _ => rfl) rfl rfl⟩

theorem setWatch (h : s.Sound) (w : WatchNo) {x : Watch} (ok : watchOk x) : (s.setWatch p w x).Sound :=
  ⟨h.inRange.of_arbiter rfl h.inRange.inputs (fun _ => rfl) h.inRange.steps, h.banks.setWatch p w ok,
    h.copy.of_eq (fun _ => rfl) (fun _ => rfl) rfl rfl⟩

/-- A draft is written only while no commit waits (R105). -/
theorem writeDraft (h : s.Sound) (k : SlotNo) (e : Option SlotEntry) (idle : (s.mapsOf p).commitPending = false) :
    (s.writeDraft p k e).Sound :=
  h.setMaps p ⟨(h.banks.maps p).1, by simp [idle]⟩

theorem decideSlot (h : s.Sound) (c : Byte) (a b : Half) : (decideSlot p c a b s).1.Sound := by
  unfold Machine.decideSlot
  split
  · exact h
  dsimp only
  split
  · exact h
  next idle =>
  have idle : (s.mapsOf p).commitPending = false := Bool.eq_false_iff.mpr idle
  split
  · exact h.writeDraft p _ _ idle
  split
  · exact h
  split
  · exact h
  · exact h.writeDraft p _ _ idle

/-- A draft waits to go live only when it fits (R108). -/
theorem decideCommit (h : s.Sound) : (decideCommit p s).1.Sound := by
  unfold Machine.decideCommit
  dsimp only
  split
  · exact h
  split
  · exact h
  next fits => exact h.setMaps p ⟨(h.banks.maps p).1, fun _ => Nat.not_lt.mp fits⟩

theorem decideWatch (h : s.Sound) (c : Byte) (a b : Half) : (decideWatch p c a b s).1.Sound := by
  unfold Machine.decideWatch
  split
  · exact h.setWatch p _ (watchOk_written _ a b)
  · exact h

theorem decideWatchClear (h : s.Sound) (c : Byte) : (decideWatchClear p c s).1.Sound := by
  unfold Machine.decideWatchClear
  dsimp only
  split
  · refine h.withWatches p fun w => ?_
    rw [Vector.pick_fill]
    exact watchOk_cleared (h.banks.watches p w)
  split
  · exact h
  · exact h.setWatch p _ (watchOk_cleared (h.banks.watches p _))

/-- A request of any kind is decided soundly. -/
theorem decideRequest (h : s.Sound) (r : Request) : (decideRequest p r s).1.Sound := by
  unfold Machine.decideRequest
  split
  · exact h.decideClaim p _
  · exact h.decideYield p _
  · exact h.decideGain p _ _
  · exact h.decidePad p _ _
  · exact h.decideMode p _ _
  · exact h.decidePhantom p _ _
  · exact h.decideTrim p _ _
  · exact h.decideMute p _ _
  · exact h.decideLink p _ _
  · exact h.decideSlot p _ _ _
  · exact h.decideCommit p
  · exact h.of_interior (decideRound_interior s p _)
  · exact h.decideWatch p _ _ _
  · exact h.decideWatchClear p _
  · exact h.of_interior (decideSetting_interior s _ _)
  · exact h.of_interior (decideFactory_interior s p)
  · exact h

end State.Sound

end Sys2Proof.Machine
end

section
/-! SUPPORT and the statements that every step keeps the analog state and the records, and groups, maps, watches and the
front-end record in the store: requests taken, copies, port loss, cycle boundaries, the restart and the start, then every
command. -/

namespace Sys2Proof.Machine

open Sys2Proof.Safety Sys2Proof.Claims

/-! ### Requests taken from their queues (R149 to R151) -/

namespace State.Sound

variable {s : State} (p : Port)

theorem setPort (h : s.Sound) (x : PortLink) : (s.setPort p x).Sound := h.of_interior rfl

theorem takeOne (h : s.Sound) : (s.takeOne p).Sound := by
  unfold State.takeOne
  split
  · exact h
  split
  · rw [State.serve_eq]
    exact ((h.setPort p _).decideRequest p _).setPort p _
  · exact h

theorem takes (h : s.Sound) (n : Nat) : (s.takes p n).Sound := by
  induction n generalizing s with
  | zero => exact h
  | succ n ih => exact ih (h.takeOne p)

theorem drain (h : s.Sound) : (s.drain p).Sound := h.takes p _

theorem takeWaiting (h : s.Sound) (schedule : List Port) : (s.takeWaiting schedule).Sound :=
  foldl (fun _ p ht => ht.drain p) allPorts (foldl (fun _ p ht => ht.takeOne p) schedule h)

theorem join (h : s.Sound) (r : Request) : (s.join p r).Sound := by
  unfold State.join
  split
  · exact (h.setPort p _).drain p
  · exact h.setPort p _

theorem request (h : s.Sound) (r : Request) : (s.request p r).Sound := by
  unfold State.request
  split
  · exact h
  · exact h.join p r

theorem endCopy (h : s.Sound) (l : LaneId) (rest : List Byte) : (s.endCopy p l rest).Sound := by
  have judged (x : Lane) : (s.setLane p l x).Sound := h.setPort p _
  unfold State.endCopy
  dsimp only
  split
  · exact h
  · exact h.of_interior rfl
  split
  · exact foldl (fun _ r ht => ht.join p r) _ ((judged _).setPort p _)
  · exact judged _

theorem loseMaps (h : s.Sound) : (s.loseMaps p).Sound := h.setMaps p ((h.banks.maps p).withDraft _)

theorem loseWatches (h : s.Sound) : (s.loseWatches p).Sound :=
  h.withWatches p fun w => by rw [Vector.pick_fill]; exact watchOk_reset

end State.Sound

/-! ### Lanes and attach states (R142, R143, R146) -/

section

variable (s : State) (p : Port)

@[simp] theorem State.setLane_interior (l : LaneId) (x : Lane) : (s.setLane p l x).interior = s.interior := rfl

@[simp] theorem State.forgetIfLaneChanged_interior (before : State) :
    (s.forgetIfLaneChanged before).interior = s.interior := (clockOnly_forgetIfLaneChanged s before).interior

@[simp] theorem State.measure_interior (count : Byte) (tick : Nat) : (s.measure count tick).interior = s.interior :=
  (clockOnly_measure s count tick).interior

@[simp] theorem State.attachPort_interior : (s.attachPort p).interior = s.interior := by
  unfold State.attachPort
  split
  · rfl
  · exact (clockOnly_clockAttached _ p).interior

@[simp] theorem State.detachPort_interior : (s.detachPort p).interior = s.interior := by
  unfold State.detachPort
  split
  · exact (clockOnly_clockDetached _ p).interior
  · rfl

@[simp] theorem State.dropLane_interior (l : LaneId) : (s.dropLane p l).interior = s.interior := by
  simp only [State.dropLane, State.forgetIfLaneChanged_interior]
  split <;> simp

theorem State.missLane_interior (l : LaneId) : (s.missLane p l).interior = s.interior := by
  unfold State.missLane
  dsimp only
  split
  · rfl
  split
  · rfl
  · exact s.dropLane_interior p l
  split
  · exact s.dropLane_interior p l
  · rfl

@[simp] theorem State.validHeader_interior (l : LaneId) (count : Byte) (tick : Nat) :
    (s.validHeader p l count tick).interior = s.interior := by
  unfold State.validHeader
  dsimp only
  split
  · split
    · exact State.measure_interior _ count tick
    · rfl
  split
  · rw [State.forgetIfLaneChanged_interior, State.attachPort_interior, State.setLane_interior]
  · rfl

theorem State.arrive_interior (l : LaneId) (count requests crcHigh crcLow : Byte) (tick : Nat) :
    (s.arrive p l count requests crcHigh crcLow tick).interior = s.interior := by
  unfold State.arrive
  dsimp only
  split
  · split
    · rw [State.validHeader_interior, State.setLane_interior]
    · rfl
  · rfl

end

/-! ### The laws whether or not the part runs -/

/-- The laws in every phase: of the front-end record only while the part runs. -/
structure State.Upheld (s : State) : Prop where
  inRange : s.InRange
  banks : s.BanksLawful
  copy : s.phase = .running → s.CopyKept

namespace State.Upheld

variable {s t : State}

theorem sound (h : s.Upheld) (running : s.phase = .running) : s.Sound := ⟨h.inRange, h.banks, h.copy running⟩

theorem whenRunning (h : s.Upheld) (ht : s.Sound → t.Upheld) : (s.whenRunning t).Upheld := by
  by_cases running : s.phase = .running
  · rw [State.whenRunning_running _ running]; exact ht (h.sound running)
  · rw [State.whenRunning_stopped _ running]; exact h

/-- A part that has stopped is bound by the other laws only. -/
theorem of_stopped (inRange : s.InRange) (banks : s.BanksLawful) (stopped : s.phase ≠ .running) : s.Upheld :=
  ⟨inRange, banks, fun running => (stopped running).elim⟩

end State.Upheld

theorem State.Sound.upheld {s : State} (h : s.Sound) : s.Upheld := ⟨h.inRange, h.banks, fun _ => h.copy⟩

theorem State.upheld_iff (s : State) :
    s.Upheld ↔ (analogInRange s ∧ recordsOk s) ∧
      groupsOk s ∧ mapsOk s ∧ watchesOk s ∧ workingCopyOk s ∧ deferredWriteOk s := by
  constructor
  · rintro ⟨inRange, ⟨groups, maps, watches⟩, copy⟩
    exact ⟨s.inRange_iff.mp inRange, groups, maps, watches, s.copyKept_iff.mpr copy⟩
  · rintro ⟨inRange, groups, maps, watches, copy⟩
    exact ⟨s.inRange_iff.mpr inRange, ⟨groups, maps, watches⟩, s.copyKept_iff.mp copy⟩

/-! ### The restart (R170) -/

section

variable {s : State}

theorem State.InRange.withPhase (h : s.InRange) (x : Phase) : State.InRange { s with phase := x } :=
  h.of_arbiter rfl h.inputs (fun _ => rfl) h.steps

theorem upheld_writeDefaults (inRange : s.InRange) (banks : s.BanksLawful) (stopped : s.phase ≠ .running) :
    s.writeDefaults.Upheld := by
  unfold State.writeDefaults
  split
  · exact .of_stopped inRange banks stopped
  · obtain ⟨-, copy, write⟩ := inRange.steps
    exact .of_stopped ((inRange.withStore (st := { s.store with settings := .defaults, frontEnd := .defaults })
      ⟨stepsInRange_defaults, copy, write⟩).withPhase .restartSettings) (banks.of_eq rfl rfl rfl) Phase.noConfusion

theorem upheld_beginRestart (h : s.Sound) : s.beginRestart.Upheld :=
  upheld_writeDefaults (h.inRange.withPhase .restartWaits) (h.banks.of_eq rfl rfl rfl) Phase.noConfusion

/-! ### Port loss (R45, R118, R163) -/

theorem State.Sound.lostBeforeClock (h : s.Sound) (p : Port) : (s.lostBeforeClock p).Sound := by
  have lost := h.setPort p (s.port p).lose
  have frame := sameButHands_loseHoldings (s.setPort p (s.port p).lose) p
  have units : ((s.setPort p (s.port p).lose).loseHoldings p).Sound :=
    ⟨lost.inRange.loseHoldings p, lost.banks.of_hands frame, lost.copy.of_hands frame⟩
  exact (units.loseMaps p).loseWatches p

theorem upheld_losePort (h : s.Sound) (p : Port) : (s.losePort p).Upheld := by
  have lost := (h.lostBeforeClock p).of_interior (clockOnly_clockDetached _ p).interior
  rw [State.losePort_eq]
  dsimp only
  split
  · exact upheld_beginRestart lost
  · exact lost.upheld

/-! ### The end of a cycle (R22, R54, R159) -/

theorem State.endFrontEnd_input (s : State) (samples : CycleSamples) (i : InputNo) :
    (s.endFrontEnd samples).input i = (s.input i).endCycle (samples.pick i) := by
  unfold State.endFrontEnd; exact Vector.pick_fill _ i

theorem State.Sound.endFrontEnd (h : s.Sound) (samples : CycleSamples) : (s.endFrontEnd samples).Sound := by
  have stored (x : Preamp) (v : Vector Sample 64) : (x.endCycle v).stored = x.stored := by
    unfold Preamp.endCycle; split <;> rfl
  have groups : (s.endFrontEnd samples).frontEnd.groups = s.frontEnd.groups := by simp only [State.endFrontEnd]
  have arbiter : (s.endFrontEnd samples).arbiter = s.arbiter := by simp only [State.endFrontEnd]
  have store : (s.endFrontEnd samples).store = s.store := by simp only [State.endFrontEnd]
  refine ⟨h.inRange.endFrontEnd samples, h.banks.of_eq groups ?_ ?_, h.copy.of_eq (fun i => ?_) (fun g => ?_) ?_ ?_⟩
  · simp only [State.endFrontEnd]
  · simp only [State.endFrontEnd]
  · rw [State.endFrontEnd_input, stored]
  · exact congrArg (fun x => (x.pick g).state) groups
  · rw [arbiter]
  · rw [store]

/-- The records handed over are those kept, which are in range (R54). -/
theorem State.Sound.handRecords (h : s.Sound) : s.handRecords.Sound :=
  ⟨⟨h.inRange.inputs, h.inRange.steps, h.inRange.records, fun p i => (h.inRange.records p i).inRange⟩,
    h.banks.of_eq rfl rfl rfl, h.copy.of_eq (fun _ => rfl) (fun _ => rfl) rfl rfl⟩

theorem State.Sound.evaluateWatches (h : s.Sound) : s.evaluateWatches.Sound :=
  ⟨h.inRange.of_arbiter rfl h.inRange.inputs (fun _ => rfl) h.inRange.steps, h.banks.evaluateWatches,
    h.copy.of_eq (fun _ => rfl) (fun _ => rfl) rfl rfl⟩

theorem State.setStickies_interior (s : State) : s.setStickies.interior = s.interior := by
  simp only [State.interior, State.setStickies]

theorem State.Sound.endCycle (h : s.Sound) (samples : CycleSamples) : (s.endCycle samples).Sound := by
  have taken (t : State) : (t.takeSamples samples).interior = t.interior := rfl
  exact (((h.endFrontEnd samples).handRecords).of_interior
    ((State.setStickies_interior _).trans (taken _))).evaluateWatches

/-! ### The start of a cycle (R1, R18, R52, R111) -/

/-- The blocks' work of a cycle start, as far as the laws read it. -/
theorem State.startBlocks_interior (s : State) : s.startBlocks.interior = (broughtIn s).interior := by
  rw [← s.startBlocks_leave_aside]; rfl

theorem State.broughtIn_input (s : State) (i : InputNo) : (broughtIn s).input i = started s i := Vector.pick_fill _ i

theorem State.broughtIn_record_eq (s : State) (q : Port) (i : InputNo) :
    (broughtIn s).record q i =
      if isHolder s q i then asHolder { s.record q i with anchor := (started s i).effective }
      else asNonHolder (s.record q i) (started s i).effective := by
  simp only [State.record, Vector.pick_fill]

theorem State.broughtIn_record (s : State) (q : Port) (i : InputNo) :
    (broughtIn s).record q i = (s.record q i).startCycle (s.holds q i) (started s i).effective := by
  rw [State.broughtIn_record_eq, CompRecord.startCycle_eq, State.holds_eq]
  simp only [decide_eq_true_eq]

theorem State.broughtIn_mapsOf (s : State) (p : Port) : (broughtIn s).mapsOf p = (s.mapsOf p).goLive :=
  Vector.pick_fill _ p

/-- A stored bank with the changed entries replaced holds what is then in effect. -/
theorem pick_replaced {α : Type} [DecidableEq α] (v : Vector α 32) (requested inEffect : InputNo → α) (i : InputNo)
    (copied : v.pick i = inEffect i) :
    (Vector.fill fun i => if requested i = inEffect i then v.pick i else requested i).pick i = requested i := by
  rw [Vector.pick_fill]
  split
  · next same => rw [copied, same]
  · rfl

theorem State.Sound.broughtIn (h : s.Sound) : (Claims.broughtIn s).Sound := by
  have store : (Claims.broughtIn s).store = s.startFrontEnd.store := s.startFrontEnd_store.symm
  rw [State.startFrontEnd_store, ← Store.noteChange_eq_noted] at store
  obtain ⟨inputs, groups, links⟩ := h.copy.agrees
  simp only [Preamp.stored, Prod.mk.injEq] at inputs
  have range (i : InputNo) : (started s i).InRange := (h.inRange.inputs i).started
  have holds (q : Port) (i : InputNo) : (Claims.broughtIn s).holds q i = s.holds q i := rfl
  refine ⟨⟨fun i => ?_, ?_, fun q i => ?_, h.inRange.handed⟩, ⟨h.banks.groups, fun p => ?_, h.banks.watches⟩, ?_⟩
  · rw [State.broughtIn_input]; exact range i
  · rw [store]
    split
    · exact h.inRange.steps.noteChange h.inRange.steps.1
    · exact h.inRange.steps
  · rw [State.effective, State.broughtIn_input, State.broughtIn_record, holds]
    exact CompRecord.lawful_startCycle (h.inRange.records q i).based _ (range i).effective
  · rw [State.broughtIn_mapsOf]; exact (h.banks.maps p).goLive
  · split at store
    · refine h.copy.noted store ⟨fun i => ?_, groups, links⟩
      obtain ⟨step, pad, mode⟩ := inputs i
      rw [State.broughtIn_input, Preamp.stored,
        pick_replaced s.store.frontEnd.pads (fun i => (s.input i).padRequested) _ i pad,
        pick_replaced s.store.frontEnd.modes (fun i => (s.input i).modeRequested) _ i mode, step]
    · next same =>
      push Not at same
      refine ⟨?_, by rw [store]; exact h.copy.deferred⟩
      rw [store]
      refine ⟨fun i => ?_, groups, links⟩
      obtain ⟨step, pad, mode⟩ := inputs i
      rw [State.broughtIn_input, Preamp.stored, step, pad, mode, ← (same i).1, ← (same i).2]

theorem State.sendDownlinks_interior (s : State) (count : Byte) (leaving : Vector (List Response) 4) :
    (s.sendDownlinks count leaving).interior = s.interior := by
  simp only [State.interior, State.sendDownlinks]

/-- The laws read no sticky. -/
theorem State.Sound.clearReported (h : s.Sound) (i : InputNo) : (s.clearReported i).Sound :=
  ⟨h.inRange.of_arbiter rfl h.inRange.inputs (fun _ => rfl) h.inRange.steps, h.banks.of_eq rfl rfl rfl,
    h.copy.of_eq (fun _ => rfl) (fun _ => rfl) rfl rfl⟩

theorem upheld_startCycle (h : s.Sound) (schedule : List Port) : (s.startCycle schedule).Upheld := by
  have left : s.startBlocks.leave.Sound := h.broughtIn.of_interior s.startBlocks_interior
  have taken : (s.startBlocks.leave.takeWaiting schedule).Sound := left.takeWaiting schedule
  have sent := (taken.of_interior (State.sendDownlinks_interior _ s.nextCount (.fill s.startBlocks.leaving))).clearReported
    (digestInput s.nextCount)
  unfold State.startCycle
  dsimp only
  split
  · exact upheld_beginRestart sent
  · exact sent.upheld

/-! ### The start (R24, R69, R83, R173) -/

theorem State.startUp_holds (s : State) (p : Port) (i : InputNo) : s.startUp.holds p i = false := by
  rw [State.holds_eq_holder, State.startUp_holding]; rfl

/-- A record at start is a non-holder's with an applied digital gain of 0 dB (R69). -/
theorem startRecord_lawful {r : StoredFrontEnd} (steps : stepsInRange r) (i : InputNo) :
    (startRecord r i).Lawful false (startInput r i).effective := by
  have anchor : (startRecord r i).anchor = (startInput r i).effective := rfl
  have trim : (startRecord r i).trim = 0 := rfl
  refine ⟨⟨(startInput_inRange steps i).effective, by rw [trim]; decide⟩, ?_⟩
  rw [CompRecord.recompute_other, anchor, trim, Int.sub_self]
  rfl

theorem State.startUp_handed (s : State) (p : Port) (i : InputNo) :
    (s.startUp.arbiter.handed.pick p).pick i = startRecord s.store.frontEndCopy.load i := by
  simp only [State.startUp, Vector.pick_fill, Store.start]

theorem startGroup_live (r : StoredFrontEnd) (g : GroupNo) (sense : Sense) :
    (startGroup r g sense).state.live = r.phantom.pick g := by
  rw [startGroup_eq]
  cases r.phantom.pick g <;> rfl

/-- From a stored copy whose steps are steps, the part starts with every law upheld. -/
theorem upheld_startUp (steps : stepsInRange s.store.frontEndCopy.record) : s.startUp.Upheld := by
  have loaded : stepsInRange s.store.frontEndCopy.load := stepsInRange_load steps
  have store : s.startUp.store = s.store.start := rfl
  refine ⟨⟨fun i => ?_, ?_, fun p i => ?_, fun p i => ?_⟩, ⟨fun g => ?_, fun p => ?_, fun p w => ?_⟩, fun _ => ⟨?_, ?_⟩⟩
  · rw [State.startUp_input]; exact startInput_inRange loaded i
  · rw [store]; exact ⟨loaded, steps, by simp [Store.start]⟩
  · rw [State.effective, State.startUp_input, State.startUp_record, State.startUp_holds]
    exact startRecord_lawful loaded i
  · rw [State.startUp_handed]; exact (startRecord_lawful loaded i).inRange
  · rw [State.startUp_group]; exact groupOk_startGroup _ g _
  · rw [State.startUp_mapsOf]; exact PortMaps.reset_fits
  · rw [State.startUp_watch]; exact watchOk_reset
  · rw [store]
    refine ⟨fun i => ?_, fun g => ?_, fun k => (s.startUp_linked k).symm⟩
    · rw [State.startUp_input]; rfl
    · rw [State.startUp_group, startGroup_live]; rfl
  · rw [store]; exact .start _

/-! ### Every command -/

theorem State.Upheld.withStore (h : s.Upheld) {st : Store} (same : st.deferral = s.store.deferral) :
    State.Upheld { s with store := st } :=
  ⟨h.inRange.withStore (h.inRange.steps.of_deferral same), h.banks.of_eq rfl rfl rfl, fun running =>
    (h.copy running).of_eq (fun _ => rfl) (fun _ => rfl) rfl same⟩

theorem State.Upheld.setGroup (h : s.Upheld) (g : GroupNo) {x : PhantomGroup} (ok : groupOk x)
    (state : x.state = (s.group g).state) : (s.setGroup g x).Upheld :=
  ⟨h.inRange.of_arbiter rfl h.inRange.inputs (fun _ => rfl) h.inRange.steps, h.banks.setGroup g ok, fun running =>
    (h.copy running).setGroup g state⟩

/-- A write of the front-end record begins once its timers run (R172). -/
theorem State.Sound.beginWrite (h : s.Sound) (timer : s.store.quietTimer.isSome = true) :
    State.Sound { s with store := s.store.beginWrite } :=
  ⟨h.inRange.withStore h.inRange.steps.beginWrite, h.banks.of_eq rfl rfl rfl,
    ⟨h.copy.agrees.of_eq (fun _ => rfl) (fun _ => rfl) rfl, h.copy.deferred.beginWrite timer⟩⟩

theorem State.Sound.frontEndWritten (h : s.Sound) {w : FrontEndWrite} (write : s.store.frontEndWrite = some w) :
    State.Sound { s with store := s.store.frontEndWritten w } :=
  ⟨h.inRange.withStore (h.inRange.steps.frontEndWritten write), h.banks.of_eq rfl rfl rfl,
    ⟨h.copy.agrees.of_eq (fun _ => rfl) (fun _ => rfl) rfl, h.copy.deferred.frontEndWritten write⟩⟩

theorem exec_upheld {c : Instr} {t : State} (h : s.Upheld) (next : exec c s = .next t) : t.Upheld := by
  have running {t : State} (ht : s.Sound → t.Sound) : (s.whenRunning t).Upheld :=
    h.whenRunning fun sound => (ht sound).upheld
  have alike {t : State} (same : t.interior = s.interior) : (s.whenRunning t).Upheld :=
    running fun sound => sound.of_interior same
  have requests (p : Port) (r : Request) : (s.whenRunning (s.request p r)).Upheld :=
    running fun sound => sound.request p r
  have group (g : GroupNo) := h.banks.groups g
  cases c <;> cases next
  case copyStart p l rest => exact running fun sound => (sound.endCopy p l rest).setPort p _
  case signalLoss p l rest => exact running fun sound => sound.endCopy p l rest
  case headerArrival p l count n hi lo tick => exact alike (s.arrive_interior p l count n hi lo tick)
  case miss p l => exact alike (s.missLane_interior p l)
  case graceExpiry p =>
    refine h.whenRunning fun sound => ?_
    split
    · exact upheld_losePort sound p
    · exact h
  case cycleStart schedule => exact h.whenRunning fun sound => upheld_startCycle sound schedule
  case cycleEnd samples => exact running fun sound => sound.endCycle samples
  case modeTimerExpiry i =>
    exact running fun sound => ⟨sound.inRange.setInput (sound.inRange.inputs i) rfl, sound.banks.of_eq rfl rfl rfl,
      sound.copy.setInput rfl⟩
  case chargeTimerExpiry g => exact running fun sound => sound.changeGroup g (groupOk_chargeExpired (group g))
  case dischargeTimerExpiry g => exact running fun sound => sound.changeGroup g (groupOk_dischargeExpired (group g))
  case lowSenseTimerExpiry g => exact running fun sound => sound.changeGroup g (groupOk_lowSenseExpired (group g))
  case faultVoidTimerExpiry g => exact h.whenRunning fun _ => h.setGroup g (group g) rfl
  case senseChange g level =>
    exact h.setGroup g (groupOk_sensed (group g) level) (PhantomGroup.sensed_state _ level)
  case acquireTimerExpiry => exact alike (clockOnly_acquireExpired s).interior
  case holdoverTimerExpiry => exact alike (clockOnly_holdoverExpired s).interior
  case quietTimerExpiry =>
    refine running fun sound => ?_
    split
    · next begins => exact sound.beginWrite begins.1
    · exact sound
  case ceilingTimerExpiry =>
    refine running fun sound => ?_
    split
    · next begins => exact sound.beginWrite (sound.copy.deferred.together.trans begins.1)
    · exact sound
  case frontEndWriteComplete =>
    split
    · next w write phase => exact ((h.sound phase).frontEndWritten write).upheld
    · next w write phase =>
      exact upheld_writeDefaults (h.inRange.withStore (h.inRange.steps.frontEndWritten write))
        (h.banks.of_eq rfl rfl rfl) (by simp [phase])
    · exact h
  case settingsWriteComplete =>
    split
    · exact h.withStore rfl
    · next w write phase =>
      have written := h.withStore (st := { s.store.settingsWritten w with settingsWrite := none }) rfl
      exact upheld_writeDefaults written.inRange written.banks (by simp [phase])
    · exact h
  case factoryWriteComplete =>
    split
    · exact .of_stopped (h.inRange.of_arbiter rfl h.inRange.inputs (fun _ => rfl) h.inRange.steps)
        (h.banks.of_eq rfl rfl rfl) Phase.noConfusion
    · exact upheld_startUp h.inRange.steps.1
    all_goals exact h
  case setupSwitchTurn x => exact h.withStore rfl
  case powerOn a b => exact upheld_startUp h.inRange.steps.2.1
  case powerLoss =>
    obtain ⟨current, copy, -⟩ := h.inRange.steps
    exact .of_stopped (h.inRange.of_arbiter rfl h.inRange.inputs (fun _ => rfl) ⟨current, copy, by simp⟩)
      (h.banks.of_eq rfl rfl rfl) Phase.noConfusion
  all_goals exact requests _ _

/-- A step runs the front command, or idles. -/
theorem step_upheld {t : State} (h : s.Upheld) (next : step s = .next t) : t.Upheld := by
  unfold step at next
  split at next
  · cases next; exact h
  next rest _ =>
  refine exec_upheld (s := { s with pending := rest }) ?_ next
  exact ⟨h.inRange.of_arbiter rfl h.inRange.inputs (fun _ => rfl) h.inRange.steps, h.banks.of_eq rfl rfl rfl,
    fun running => (h.copy running).of_eq (fun _ => rfl) (fun _ => rfl) rfl rfl⟩

end

theorem State.upheld_of_invariant {s : State} (inv : invariant s) : s.Upheld := by
  obtain ⟨analog, records, -, -, -, groups, maps, watches, -, -, copy, deferred⟩ := inv
  exact s.upheld_iff.mpr ⟨⟨analog, records⟩, groups, maps, watches, copy, deferred⟩

end Sys2Proof.Machine

namespace Sys2Proof.Proofs

open Sys2Proof.Machine Sys2Proof.Safety

/-- Settles O57: the laws of the analog state and of the records are upheld by every step, together with those of
groups, maps, watches and store. -/
theorem stepsKeepAnalogStateAndRecords : Obligations.StepsKeepAnalogStateAndRecords :=
  fun _ t inv next => (t.upheld_iff.mp (step_upheld (State.upheld_of_invariant inv) next)).1

/-- Settles O59: as O57, the other half of the laws that every step upholds. -/
theorem stepsKeepGroupsMapsWatchesAndStore : Obligations.StepsKeepGroupsMapsWatchesAndStore :=
  fun _ t inv next => (t.upheld_iff.mp (step_upheld (State.upheld_of_invariant inv) next)).2

end Sys2Proof.Proofs
end

section
/-! The statements on the step, on POWER_ON (R24, R50, R69, R83, R102, R119, R139, R156, R163, R173) and on the state after
reset, which is the start from default records in storage. -/

namespace Sys2Proof.Machine

open Sys2Proof.Safety Sys2Proof.Claims

/-! ### The state after reset is a start (log entry 1) -/

/-- The default record has no linked pair to conform (R83, R170). -/
theorem StoredFrontEnd.defaults_conform : StoredFrontEnd.defaults.conform = .defaults := by
  simp [StoredFrontEnd.conform, StoredFrontEnd.defaults]

theorem Store.reset_start : Store.reset.start = .reset := by
  simp [Store.start, Store.reset, SettingsCopy.load, FrontEndCopy.load, StoredFrontEnd.defaults_conform]

/-- From the default record every input, report, group and record takes its reset value. -/
theorem startInput_defaults (i : InputNo) : startInput .defaults i = .reset := by
  simp [startInput, StoredFrontEnd.defaults, Preamp.reset, effectiveGain]

theorem startReport_defaults (i : InputNo) : startReport .defaults i = .reset := by
  simp [startReport, StoredFrontEnd.defaults, InputReport.reset]

theorem startGroup_defaults (g : GroupNo) : startGroup .defaults g .low = .reset := by
  simp [startGroup, StoredFrontEnd.defaults, PhantomGroup.reset]

theorem startRecord_defaults (i : InputNo) : startRecord .defaults i = .reset := by
  simp [startRecord, StoredFrontEnd.defaults, CompRecord.reset, effectiveGain]

theorem State.reset_group_sense (g : GroupNo) : (State.reset.group g).sense = .low := by
  simp [State.reset, State.group, PhantomGroup.reset]

theorem State.reset_startUp : State.reset.startUp = .reset := by
  have store : State.reset.store = .reset := rfl
  have record : Store.reset.frontEnd = .defaults := rfl
  have links : StoredFrontEnd.defaults.linked = .fill fun _ => false := rfl
  have clock : { Clock.reset with
      rate := Store.reset.settings.rate, length := (nominalCycle Store.reset.settings.rate : Nat) } = Clock.reset := rfl
  unfold State.startUp
  simp only [store, Store.reset_start, record, State.reset_group_sense, funext startInput_defaults,
    funext startReport_defaults, funext startGroup_defaults, funext startRecord_defaults, links, clock]
  rfl

/-- Whatever the copies in storage hold, a start from steps and settings of their sets meets the whole invariant. -/
theorem invariant_startUp {s : State} (steps : stepsInRange s.store.frontEndCopy.record)
    (settings : settingsOk s.store.settingsCopy.record) : invariant s.startUp := by
  have lawful := State.Lawful.startUp s
  obtain ⟨⟨analog, records⟩, groups, maps, watches, copy, deferred⟩ :=
    s.startUp.upheld_iff.mp (upheld_startUp steps)
  exact ⟨analog, records, lawful.holdings, lawful.pairs, lawful.absent, groups, maps, watches, linksOk_startUp s,
    clockOk_startUp settings, copy, deferred⟩

end Sys2Proof.Machine

namespace Sys2Proof.Proofs

open Sys2Proof.Machine Sys2Proof.Safety Sys2Proof.Claims

/-- Settles O1: by the two cases of the step. -/
theorem stepRunsTheFrontCommand : Obligations.StepRunsTheFrontCommand := by
  refine fun c s => ⟨rfl, fun empty => ?_⟩
  unfold step
  split
  · rfl
  · next waiting => rw [empty] at waiting; cases waiting

/-- Settles O53: POWER_ON is a start with the copies' soundness as read, and a start takes the start values. -/
theorem powerOnTakesTheStartValues : Obligations.PowerOnTakesTheStartValues := by
  intro s settingsSound frontEndSound a b
  have starts := State.startUp_startsFrom { s with store := { s.store with
    settingsCopy := { a with sound := a.sound && settingsSound }
    frontEndCopy := { b with sound := b.sound && frontEndSound } } }
  simp only [SettingsCopy.load, FrontEndCopy.loaded, Bool.and_eq_true] at starts
  exact ⟨_, rfl, starts, rfl, rfl⟩

/-- Settles O56: the state after reset is the start from the default records, and every such start meets the
invariant. -/
theorem resetMeetsTheInvariant : Obligations.ResetMeetsTheInvariant := by
  unfold Obligations.ResetMeetsTheInvariant
  rw [← State.reset_startUp]
  exact invariant_startUp stepsInRange_defaults settingsOk_defaults

end Sys2Proof.Proofs
end

section
/-! The statements on refusals: of a target out of range, of the odd member of a linked pair, and of an analog request
with a bad operand or from a port that does not hold the unit (R13, R17, R27, R38, R43, R155). -/

namespace Sys2Proof.Machine

open Sys2Proof.Safety Sys2Proof.Claims

section

variable {s : State} {p : Port}

/-- A request whose decision is an answer alone leaves everything but the port's responses. -/
theorem onlyAnswers_of_decided {c : Instr} {y : Reply} (r : Request) (hr : ready s p)
    (command : exec c s = .next (s.whenRunning (s.request p r))) (decided : decideRequest p r s = (s, y)) :
    onlyAnswers c s p (y.toResponse r) := by
  rw [onlyAnswers, command, State.whenRunning_request r hr, decided]
  rfl

/-! ### Targets out of range (R155) -/

section

variable {t : Byte}

theorem inputTarget_none (h : 32 ≤ t.toNat) : inputTarget t = none := dif_neg (Nat.not_lt.mpr h)

theorem slotTarget_none (h : 32 ≤ t.toNat) : slotTarget t = none := dif_neg (Nat.not_lt.mpr h)

theorem pairTarget_none (h : 16 ≤ t.toNat) : pairTarget t = none := dif_neg (Nat.not_lt.mpr h)

theorem groupTarget_none (h : 8 ≤ t.toNat) : groupTarget t = none := dif_neg (Nat.not_lt.mpr h)

theorem watchTarget_none (h : 8 ≤ t.toNat) : watchTarget t = none := dif_neg (Nat.not_lt.mpr h)

theorem settingItem_none (h : 4 ≤ t.toNat) : settingItem t = none := by
  have other (n : Byte) (hn : n.toNat < 4) : t ≠ n := by rintro rfl; omega
  simp only [settingItem, other 0 (by decide), other 1 (by decide), other 2 (by decide), other 3 (by decide), if_false]

/-- The kinds whose target is an input. -/
theorem decide_badInput (s : State) (p : Port) (a : Half) (h : 32 ≤ t.toNat) :
    decideClaim p t s = (s, .badTarget) ∧ decideYield p t s = (s, .badTarget) ∧
    decideGain p t a s = (s, .badTarget) ∧ decidePad p t a s = (s, .badTarget) ∧
    decideMode p t a s = (s, .badTarget) ∧ decideTrim p t a s = (s, .badTarget) ∧
    decideMute p t a s = (s, .badTarget) := by
  simp only [decideClaim, decideYield, decideGain, decidePad, decideMode, decideTrim, decideMute, inputTarget_none h,
    and_self]

theorem decideSlot_badSlot (s : State) (p : Port) (a b : Half) (h : 32 ≤ t.toNat) :
    decideSlot p t a b s = (s, .badTarget) := by simp only [decideSlot, slotTarget_none h]

theorem decidePhantom_badGroup (s : State) (p : Port) (a : Half) (h : 8 ≤ t.toNat) :
    decidePhantom p t a s = (s, .badTarget) := by simp only [decidePhantom, groupTarget_none h]

theorem decideWatch_badWatch (s : State) (p : Port) (a b : Half) (h : 8 ≤ t.toNat) :
    decideWatch p t a b s = (s, .badTarget) := by simp only [decideWatch, watchTarget_none h]

theorem decideLink_badPair (s : State) (p : Port) (a : Half) (h : 16 ≤ t.toNat) :
    decideLink p t a s = (s, .badTarget) := by simp only [decideLink, pairTarget_none h]

theorem decideWatchClear_badWatch (s : State) (p : Port) (low : 8 ≤ t.toNat) (high : t.toNat ≤ 254) :
    decideWatchClear p t s = (s, .badTarget) := by
  have all : t ≠ 255 := by rintro rfl; revert high; decide
  simp only [decideWatchClear, all, if_false, watchTarget_none low]

theorem decideSetting_badItem (s : State) (a : Half) (h : 4 ≤ t.toNat) :
    decideSetting t a s = (s, .badTarget) := by simp only [decideSetting, settingItem_none h]

end

/-! ### The odd member of a linked pair (R13, R27, R60, R63) -/

theorem Mode.code_eq_bit (m : Mode) : ((m.code : Nat) : Int) = bit (m == .line) := by cases m <;> rfl

section

variable {k : PairNo} (linked : s.linked k = true)

include linked

theorem decideClaim_odd (p : Port) :
    decideClaim p (target (oddOf k)) s = (s, { outcome := .linkedOdd, value := s.standing p (evenOf k) }) := by
  have odd := (s.isLinkedOdd_oddOf k).trans linked
  simp [decideClaim, inputTarget_target, odd, standingReply, State.unitOf, linked]

theorem decideYield_odd (p : Port) :
    decideYield p (target (oddOf k)) s = (s, { outcome := .linkedOdd, value := s.standing p (evenOf k) }) := by
  have odd := (s.isLinkedOdd_oddOf k).trans linked
  simp [decideYield, inputTarget_target, odd, standingReply, State.unitOf, linked]

theorem decideGain_odd (p : Port) (a : Half) : decideGain p (target (oddOf k)) a s =
    (s, { outcome := .linkedOdd, value := ((s.input (oddOf k)).gainTarget : Nat) }) := by
  have odd := (s.isLinkedOdd_oddOf k).trans linked
  simp [decideGain, inputTarget_target, odd]

theorem decidePad_odd (p : Port) (a : Half) : decidePad p (target (oddOf k)) a s =
    (s, { outcome := .linkedOdd, value := bit (s.input (oddOf k)).padRequested }) := by
  have odd := (s.isLinkedOdd_oddOf k).trans linked
  simp [decidePad, inputTarget_target, odd, boolValue_eq_bit]

theorem decideMode_odd (p : Port) (a : Half) : decideMode p (target (oddOf k)) a s =
    (s, { outcome := .linkedOdd, value := bit ((s.input (oddOf k)).modeRequested == .line) }) := by
  have odd := (s.isLinkedOdd_oddOf k).trans linked
  simp only [decideMode, inputTarget_target, odd, if_true, Mode.code_eq_bit]

theorem decideTrim_odd (p : Port) (a : Half) : decideTrim p (target (oddOf k)) a s =
    (s, { outcome := .linkedOdd, value := (s.record p (oddOf k)).trim }) := by
  have odd := (s.isLinkedOdd_oddOf k).trans linked
  simp [decideTrim, inputTarget_target, odd]

theorem decideMute_odd (p : Port) (a : Half) : decideMute p (target (oddOf k)) a s =
    (s, { outcome := .linkedOdd, value := bit (s.record p (oddOf k)).mute }) := by
  have odd := (s.isLinkedOdd_oddOf k).trans linked
  simp [decideMute, inputTarget_target, odd, boolValue_eq_bit]

end

/-! ### GAIN, PAD and MODE from a port that may not (R13, R43) -/

section

variable {i : InputNo} {a : Half}

theorem State.holds_unit (hi : s.isLinkedOdd i = false) (p : Port) : s.holds p i = true ↔ heldBy s i p := by
  rw [State.holds_eq_holder, State.unitOf_eq_self hi, beq_iff_eq]

theorem modeOperand_none (zero : a.toInt ≠ 0) (one : a.toInt ≠ 1) : modeOperand a = none := by
  simp [modeOperand, zero, one]

theorem modeOperand_some (h : a.toInt = 0 ∨ a.toInt = 1) :
    modeOperand a = some (if a.toInt = 1 then .line else .mic) := by
  rcases h with h | h <;> simp [modeOperand, h]

theorem decidePad_badValue (p : Port) (hi : s.isLinkedOdd i = false) (zero : a.toInt ≠ 0) (one : a.toInt ≠ 1) :
    decidePad p (target i) a s = (s, { outcome := .badValue, value := bit (s.input i).padRequested }) := by
  simp [decidePad, inputTarget_target, hi, onOff_none zero one, boolValue_eq_bit]

theorem decideMode_badValue (p : Port) (hi : s.isLinkedOdd i = false) (zero : a.toInt ≠ 0) (one : a.toInt ≠ 1) :
    decideMode p (target i) a s =
      (s, { outcome := .badValue, value := bit ((s.input i).modeRequested == .line) }) := by
  simp only [decideMode, inputTarget_target, hi, Bool.false_eq_true, if_false, modeOperand_none zero one,
    Mode.code_eq_bit]

section

variable (hi : s.isLinkedOdd i = false) (other : ¬ heldBy s i p)

include hi other

theorem State.holds_false_of_unit : s.holds p i = false := Bool.eq_false_iff.mpr (mt (State.holds_unit hi p).mp other)

theorem decideGain_notHolder (a : Half) : decideGain p (target i) a s =
    (s, { outcome := .notHolder, value := ((s.input i).gainTarget : Nat) }) := by
  simp [decideGain, inputTarget_target, hi, State.holds_false_of_unit hi other]

theorem decidePad_notHolder (h : a.toInt = 0 ∨ a.toInt = 1) : decidePad p (target i) a s =
    (s, { outcome := .notHolder, value := bit (s.input i).padRequested }) := by
  simp [decidePad, inputTarget_target, hi, State.holds_false_of_unit hi other, onOff_some h, boolValue_eq_bit]

theorem decideMode_notHolder (h : a.toInt = 0 ∨ a.toInt = 1) : decideMode p (target i) a s =
    (s, { outcome := .notHolder, value := bit ((s.input i).modeRequested == .line) }) := by
  simp only [decideMode, inputTarget_target, hi, Bool.false_eq_true, if_false, modeOperand_some h,
    State.holds_false_of_unit hi other, Bool.not_false, if_true, Mode.code_eq_bit]

end

end

end

end Sys2Proof.Machine

namespace Sys2Proof.Proofs

open Sys2Proof.Machine Sys2Proof.Safety Sys2Proof.Claims

/-- Settles O8: each kind's decision looks at the target first. -/
theorem targetsOutOfRangeAreRefused : Obligations.TargetsOutOfRangeAreRefused := by
  intro s p t a b hr bad
  refine ⟨fun h => ?_, fun h => ⟨?_, ?_⟩, fun h => ?_, fun low high => ?_, fun h => ?_⟩
  · obtain ⟨claim, yield, gain, pad, mode, trim, mute⟩ := decide_badInput s p a h
    exact ⟨onlyAnswers_of_decided ⟨1, t, 0, 0⟩ hr rfl claim, onlyAnswers_of_decided ⟨2, t, 0, 0⟩ hr rfl yield,
      onlyAnswers_of_decided ⟨3, t, a, 0⟩ hr rfl gain, onlyAnswers_of_decided ⟨4, t, a, 0⟩ hr rfl pad,
      onlyAnswers_of_decided ⟨5, t, a, 0⟩ hr rfl mode,
      onlyAnswers_of_decided ⟨7, t, a, 0⟩ hr rfl trim, onlyAnswers_of_decided ⟨8, t, a, 0⟩ hr rfl mute,
      onlyAnswers_of_decided ⟨10, t, a, b⟩ hr rfl (decideSlot_badSlot s p a b h)⟩
  · exact onlyAnswers_of_decided ⟨6, t, a, 0⟩ hr rfl (decidePhantom_badGroup s p a h)
  · exact onlyAnswers_of_decided ⟨13, t, a, b⟩ hr rfl (decideWatch_badWatch s p a b h)
  · exact onlyAnswers_of_decided ⟨9, t, a, 0⟩ hr rfl (decideLink_badPair s p a h)
  · exact onlyAnswers_of_decided ⟨14, t, 0, 0⟩ hr rfl (decideWatchClear_badWatch s p low high)
  · exact onlyAnswers_of_decided ⟨15, t, a, 0⟩ hr rfl (decideSetting_badItem s a h)

/-- Settles O9: the seven kinds that refuse the odd member do so before any other check. -/
theorem theOddMemberOfALinkedPairIsRefused : Obligations.TheOddMemberOfALinkedPairIsRefused := by
  intro s p k a hr linked i odd h standing
  exact ⟨onlyAnswers_of_decided ⟨1, target i, 0, 0⟩ hr rfl (decideClaim_odd linked p),
    onlyAnswers_of_decided ⟨2, target i, 0, 0⟩ hr rfl (decideYield_odd linked p),
    onlyAnswers_of_decided ⟨3, target i, a, 0⟩ hr rfl (decideGain_odd linked p a),
    onlyAnswers_of_decided ⟨4, target i, a, 0⟩ hr rfl (decidePad_odd linked p a),
    onlyAnswers_of_decided ⟨5, target i, a, 0⟩ hr rfl (decideMode_odd linked p a),
    onlyAnswers_of_decided ⟨7, target i, a, 0⟩ hr rfl (decideTrim_odd linked p a),
    onlyAnswers_of_decided ⟨8, target i, a, 0⟩ hr rfl (decideMute_odd linked p a)⟩

/-- Settles O10: the operand is checked before the holder, and a refusal is an answer alone. -/
theorem analogRequestsNeedTheHolder : Obligations.AnalogRequestsNeedTheHolder := by
  intro s p i a hr hi pad mode
  rw [isUnit_iff] at hi
  refine ⟨fun zero one => ⟨?_, ?_⟩, fun other => ⟨?_, fun operand => ⟨?_, ?_⟩⟩⟩
  · exact onlyAnswers_of_decided ⟨4, target i, a, 0⟩ hr rfl (decidePad_badValue p hi zero one)
  · exact onlyAnswers_of_decided ⟨5, target i, a, 0⟩ hr rfl (decideMode_badValue p hi zero one)
  · exact onlyAnswers_of_decided ⟨3, target i, a, 0⟩ hr rfl (decideGain_notHolder hi other a)
  · exact onlyAnswers_of_decided ⟨4, target i, a, 0⟩ hr rfl (decidePad_notHolder hi other operand)
  · exact onlyAnswers_of_decided ⟨5, target i, a, 0⟩ hr rfl (decideMode_notHolder hi other operand)

end Sys2Proof.Proofs
end

section
/-! The statements on GAIN, PAD and MODE from the holder (R14 to R16, R77): every member of the unit takes the
requested value, and a change of a gain target goes to the store. -/

namespace Sys2Proof.Machine

open Sys2Proof.Safety Sys2Proof.Claims

/-! ### Several inputs take a value -/

/-- The inputs after those of `l` have taken a value. -/
def State.givenInputs (s : State) (l : List InputNo) (g : Preamp → Preamp) : Vector Preamp 32 :=
  .fill fun j => if j ∈ l then g (s.input j) else s.input j

theorem State.withInputs_givenInputs_input (s : State) (l : List InputNo) (g : Preamp → Preamp) (j : InputNo) :
    (s.withInputs (s.givenInputs l g)).input j = if j ∈ l then g (s.input j) else s.input j := Vector.pick_fill _ j

@[simp] theorem State.givenInputs_nil (s : State) (g : Preamp → Preamp) : s.givenInputs [] g = s.frontEnd.inputs :=
  Vector.pick_ext fun i => (Vector.pick_fill _ i).trans (if_neg List.not_mem_nil)

theorem State.setInput_givenInputs (s : State) {i : InputNo} {l : List InputNo} (outside : i ∉ l)
    (g : Preamp → Preamp) : (s.setInput i (g (s.input i))).givenInputs l g = s.givenInputs (i :: l) g := by
  refine Vector.pick_ext fun j => ?_
  simp only [State.givenInputs, State.input_setInput, Vector.pick_fill, List.mem_cons]
  by_cases here : j = i
  · subst here; simp [outside]
  · simp [here]

/-- Inputs that each take a value by themselves take it together. -/
theorem State.foldl_setInput (g : Preamp → Preamp) {l : List InputNo} (nodup : l.Nodup) (s : State) :
    l.foldl (fun t i => t.setInput i (g (t.input i))) s = s.withInputs (s.givenInputs l g) := by
  induction l generalizing s with
  | nil => rw [State.givenInputs_nil]; rfl
  | cons i l ih =>
    obtain ⟨outside, nodup⟩ := List.nodup_cons.mp nodup
    rw [List.foldl_cons, ih nodup, State.setInput_givenInputs s outside]
    rfl

/-! ### Gain targets and the store (R14, R18, R171) -/

/-- The store takes a change of one input's gain target. -/
def Store.noteStep (st : Store) (i : InputNo) (before after : Nat) : Store :=
  if before = after then st else st.noteChange { st.frontEnd with steps := st.frontEnd.steps.put i after }

theorem State.setInput_self (s : State) (i : InputNo) : s.setInput i (s.input i) = s := by
  simp [State.setInput, State.input]

theorem State.setGainTarget_eq (s : State) (i : InputNo) (n : Nat) :
    s.setGainTarget i n =
      { s.setInput i { s.input i with gainTarget := n } with
        store := s.store.noteStep i (s.input i).gainTarget n } := by
  unfold State.setGainTarget Store.noteStep
  split
  · next same =>
    subst same
    exact (s.setInput_self i).symm
  · rfl

/-- The gain targets of several inputs become `n`. -/
theorem State.foldl_setGainTarget (n : Nat) {l : List InputNo} (nodup : l.Nodup) (s : State) :
    l.foldl (fun t i => t.setGainTarget i n) s =
      { s.withInputs (s.givenInputs l fun x => { x with gainTarget := n }) with
        store := l.foldl (fun st i => st.noteStep i (s.input i).gainTarget n) s.store } := by
  induction l generalizing s with
  | nil => rw [State.givenInputs_nil]; rfl
  | cons i l ih =>
    obtain ⟨outside, nodup⟩ := List.nodup_cons.mp nodup
    have others (st : Store) :
        l.foldl (fun st j => st.noteStep j ((s.setGainTarget i n).input j).gainTarget n) st =
          l.foldl (fun st j => st.noteStep j (s.input j).gainTarget n) st := by
      refine List.foldl_ext _ _ _ fun st j hj => ?_
      have ne : j ≠ i := fun same => outside (same ▸ hj)
      have kept : (s.setGainTarget i n).input j = s.input j := by
        rw [s.setGainTarget_eq i n]
        exact (State.input_setInput _ i j _).trans (if_neg ne)
      rw [kept]
    have inputs := s.setInput_givenInputs outside fun x => { x with gainTarget := n }
    rw [List.foldl_cons, ih nodup, others, s.setGainTarget_eq i n, List.foldl_cons, ← inputs]
    rfl

/-- The stored steps with the changed targets among `l` entered. -/
def changedSteps (v : Vector Nat 32) (l : List InputNo) (before : InputNo → Nat) (n : Nat) : Vector Nat 32 :=
  .fill fun j => if j ∈ l ∧ before j ≠ n then n else v.pick j

theorem changedSteps_same {l : List InputNo} {before : InputNo → Nat} {n : Nat} (same : ¬ ∃ i ∈ l, before i ≠ n)
    (v : Vector Nat 32) : changedSteps v l before n = v :=
  Vector.pick_ext fun i => (Vector.pick_fill _ i).trans (if_neg fun h => same ⟨i, h⟩)

/-- The changes of several gain targets in one event are one change of the store. -/
theorem Store.foldl_noteStep (before : InputNo → Nat) (n : Nat) (l : List InputNo) (st : Store) :
    l.foldl (fun st i => st.noteStep i (before i) n) st =
      if ∃ i ∈ l, before i ≠ n then
        st.noteChange { st.frontEnd with steps := changedSteps st.frontEnd.steps l before n }
      else st := by
  induction l generalizing st with
  | nil => simp
  | cons i l ih =>
    have entered := fill_changes_cons st.frontEnd.steps before (fun _ => n) i l
    by_cases first : before i = n
    · have steps : changedSteps st.frontEnd.steps (i :: l) before n = changedSteps st.frontEnd.steps l before n := by
        rw [if_pos first] at entered; exact entered.symm
      rw [List.foldl_cons, Store.noteStep, if_pos first, ih, steps]
      simp [first]
    · have steps : changedSteps st.frontEnd.steps (i :: l) before n =
          changedSteps (st.frontEnd.steps.put i n) l before n := by
        rw [if_neg first] at entered; exact entered.symm
      rw [List.foldl_cons, Store.noteStep, if_neg first, ih, steps,
        if_pos (⟨i, List.mem_cons_self, first⟩ : ∃ j ∈ i :: l, before j ≠ n)]
      split
      · rw [Store.noteChange_noteChange]; rfl
      · next same => rw [changedSteps_same same]

theorem stepOperand_eq_gainStep (a : Half) : stepOperand a = gainStep a := by
  rw [stepOperand, clamp_eq (by decide)]

/-! ### The decisions from the holder -/

section

variable {s : State} {p : Port} {i : InputNo}

theorem exec_gain_ready (c : Byte) (a : Half) (h : ready s p) :
    exec (.gain p c a) s = .next ((decideGain p c a s).1.withLinks
      (answeredLinks s p ((decideGain p c a s).2.toResponse { kind := 3, target := c, a := a, b := 0 }))) :=
  congrArg Host.Outcome.next (State.whenRunning_request _ h)

theorem exec_pad_ready (c : Byte) (a : Half) (h : ready s p) :
    exec (.pad p c a) s = .next ((decidePad p c a s).1.withLinks
      (answeredLinks s p ((decidePad p c a s).2.toResponse { kind := 4, target := c, a := a, b := 0 }))) :=
  congrArg Host.Outcome.next (State.whenRunning_request _ h)

theorem exec_mode_ready (c : Byte) (a : Half) (h : ready s p) :
    exec (.mode p c a) s = .next ((decideMode p c a s).1.withLinks
      (answeredLinks s p ((decideMode p c a s).2.toResponse { kind := 5, target := c, a := a, b := 0 }))) :=
  congrArg Host.Outcome.next (State.whenRunning_request _ h)

section

variable (hi : s.isLinkedOdd i = false) (held : heldBy s i p)

include hi held

theorem decideGain_holder (a : Half) : decideGain p (target i) a s =
    ({ s.withInputs (s.givenInputs (s.members i) fun x => { x with gainTarget := gainStep a }) with
        store := (s.members i).foldl (fun st j => st.noteStep j (s.input j).gainTarget (gainStep a)) s.store },
      { outcome := clampCode 0 60 a, value := (gainStep a : Nat) }) := by
  have holds := (State.holds_unit hi p).mpr held
  rw [← State.foldl_setGainTarget _ (s.members_nodup i), ← clampedOutcome_eq_clampCode (by decide),
    ← stepOperand_eq_gainStep]
  simp [decideGain, inputTarget_target, hi, holds]

theorem decidePad_holder (on : Bool) : decidePad p (target i) (BitVec.ofNat 16 on.toNat) s =
    (s.withInputs (s.givenInputs (s.members i) fun x => { x with padRequested := on }),
      { outcome := .done, value := bit on }) := by
  have holds := (State.holds_unit hi p).mpr held
  have operand : onOff (BitVec.ofNat 16 on.toNat) = some on := by cases on <;> decide
  rw [← State.foldl_setInput _ (s.members_nodup i)]
  simp [decidePad, inputTarget_target, hi, holds, operand, boolValue_eq_bit, State.requestPad]

theorem decideMode_holder (on : Bool) : decideMode p (target i) (BitVec.ofNat 16 on.toNat) s =
    (s.withInputs (s.givenInputs (s.members i) fun x => { x with modeRequested := if on then .line else .mic }),
      { outcome := .done, value := bit on }) := by
  have holds := (State.holds_unit hi p).mpr held
  have operand : modeOperand (BitVec.ofNat 16 on.toNat) = some (if on then .line else .mic) := by
    cases on <;> decide
  have code : ((Mode.code (if on then .line else .mic) : Nat) : Int) = bit on := by cases on <;> rfl
  rw [← State.foldl_setInput _ (s.members_nodup i)]
  simp only [decideMode, inputTarget_target, hi, holds, operand, code, State.requestMode, Bool.false_eq_true,
    if_false, Bool.not_true]

end

/-- What a request that gives the members of a unit a value leaves. -/
theorem State.givenInputs_member (hi : s.isLinkedOdd i = false) (g : Preamp → Preamp) (j : InputNo) :
    (s.withInputs (s.givenInputs (s.members i) g)).input j = if member s i j then g (s.input j) else s.input j := by
  simp only [State.withInputs_givenInputs_input, member_iff hi]

end

end Sys2Proof.Machine

namespace Sys2Proof.Proofs

open Sys2Proof.Machine Sys2Proof.Safety Sys2Proof.Claims

/-- Settles O11: the members take the step together, and the store notes their changes as one. -/
theorem gainSetsTheTargetOfEveryMember : Obligations.GainSetsTheTargetOfEveryMember := by
  intro s p i a hr hi held
  rw [isUnit_iff] at hi
  refine ⟨_, exec_gain_ready _ a hr, ?_⟩
  have inputs := State.givenInputs_member hi fun x => { x with gainTarget := gainStep a }
  have store := Store.foldl_noteStep (fun j => (s.input j).gainTarget) (gainStep a) (s.members i) s.store
  simp only [Store.noteChange_eq_noted, changedSteps, ← member_iff hi] at store
  rw [decideGain_holder hi held]
  generalize s.givenInputs _ _ = x at inputs ⊢
  exact ⟨rfl, rfl, inputs, store, rfl⟩

/-- Settles O12: the members take the requested value, and nothing else is written. -/
theorem padAndModeSetTheRequestedValues : Obligations.PadAndModeSetTheRequestedValues := by
  intro s p i on hr hi held
  rw [isUnit_iff] at hi
  refine ⟨⟨_, exec_pad_ready _ _ hr, ?_⟩, ⟨_, exec_mode_ready _ _ hr, ?_⟩⟩
  · have inputs := State.givenInputs_member hi fun x => { x with padRequested := on }
    rw [decidePad_holder hi held]
    generalize s.givenInputs _ _ = x at inputs ⊢
    exact ⟨rfl, rfl, inputs, rfl⟩
  · have inputs := State.givenInputs_member hi fun x => { x with modeRequested := if on then .line else .mic }
    rw [decideMode_holder hi held]
    generalize s.givenInputs _ _ = x at inputs ⊢
    exact ⟨rfl, rfl, inputs, rfl⟩

end Sys2Proof.Proofs
end

section
/-! The statements on a cycle start that takes no request: every block brings its state into the cycle, the downlinks
are sent, and the stickies of the reported input are cleared (R1 to R7, R18 to R20, R23, R52, R93, R97, R99, R111). -/

namespace Sys2Proof.Machine

open Sys2Proof.Safety Sys2Proof.Claims

variable {s : State}

/-- A cycle start that takes no request and begins no restart. -/
theorem exec_cycleStart_quiet (quiet : quietStart s) (schedule : List Port) :
    exec (.cycleStart schedule) s = .next (sentFrom s (broughtIn s)) := by
  obtain ⟨running, empty, noFactory⟩ := quiet
  have self : factoryBy s none = s := factoryBy_self noFactory
  have started : s.startCycle schedule = sentFrom s (broughtIn s) := by
    have start := State.startCycle_withoutFactory empty schedule
    rwa [← sentFrom_factoryBy, self] at start
  rw [← started]
  exact congrArg Host.Outcome.next (State.whenRunning_running _ running)

/-! ### The stickies (R23, R97, R99) -/

theorem sentFrom_ovl (s v : State) (p : Port) (i : InputNo) :
    ((sentFrom s v).frontEnd.ovl.pick p).pick i = ((v.frontEnd.ovl.pick p).pick i && decide (¬ reported s i)) := by
  rw [Vector.pick_fill, Vector.pick_fill]

theorem sentFrom_clip (s v : State) (p : Port) (i : InputNo) :
    ((sentFrom s v).level.clip.pick p).pick i = ((v.level.clip.pick p).pick i && decide (¬ reported s i)) := by
  rw [Vector.pick_fill, Vector.pick_fill]

theorem sentFrom_void (s v : State) (p : Port) (i : InputNo) :
    ((sentFrom s v).level.void.pick p).pick i = ((v.level.void.pick p).pick i && decide (¬ reported s i)) := by
  rw [Vector.pick_fill, Vector.pick_fill]

theorem broughtIn_clip (s : State) (p : Port) (i : InputNo) :
    ((broughtIn s).level.clip.pick p).pick i = clipStands s p i := by
  rw [Vector.pick_fill, Vector.pick_fill]

end Sys2Proof.Machine

namespace Sys2Proof.Proofs

open Sys2Proof.Machine Sys2Proof.Safety Sys2Proof.Claims

/-- Settles O40: the front end's part of the state the blocks leave, which the downlinks do not change. -/
theorem aCycleStartBringsEveryInputIn : Obligations.ACycleStartBringsEveryInputIn := by
  intro s schedule quiet
  exact ⟨_, exec_cycleStart_quiet quiet schedule, rfl, rfl, rfl, fun i => Vector.pick_fill _ i, rfl⟩

/-- Settles O41: the part of the arbiter, the level engine and the slot mapper. -/
theorem aCycleStartBringsRecordsAndMapsIn : Obligations.ACycleStartBringsRecordsAndMapsIn := by
  intro s schedule quiet
  refine ⟨_, exec_cycleStart_quiet quiet schedule, rfl, fun q i => ?_, rfl, rfl, rfl, fun p i => ⟨?_, ?_, ?_⟩,
    fun p => ?_⟩
  · exact State.broughtIn_record_eq s q i
  · rw [sentFrom_clip, broughtIn_clip]
  · rw [sentFrom_void]
  · rw [sentFrom_ovl]
  · exact Vector.pick_fill _ p

end Sys2Proof.Proofs
end

section
/-! The statement on a cycle end: peak and overload of every input, the hand-over, and the OVL, VOID and CLIP stickies
(R21 to R23, R54, R84, R97, R98, R166). -/

namespace Sys2Proof.Machine

open Sys2Proof.Safety Sys2Proof.Claims

/-! ### Peak and overload of 64 samples (R22, R23) -/

/-- A running maximum is the start or attained, and bounds the start and every entry. -/
theorem foldl_max {α : Type} (f : α → Nat) (l : List α) (m : Nat) :
    (l.foldl (fun m x => max m (f x)) m = m ∨ ∃ x ∈ l, l.foldl (fun m x => max m (f x)) m = f x) ∧
    m ≤ l.foldl (fun m x => max m (f x)) m ∧ ∀ x ∈ l, f x ≤ l.foldl (fun m x => max m (f x)) m := by
  induction l generalizing m with
  | nil => simp
  | cons a l ih =>
    obtain ⟨attained, start, bound⟩ := ih (max m (f a))
    simp only [List.foldl_cons, List.mem_cons, exists_eq_or_imp, forall_eq_or_imp]
    refine ⟨?_, (le_max_left _ _).trans start, (le_max_right _ _).trans start, bound⟩
    rcases attained with same | later
    · rcases max_choice m (f a) with e | e
      · exact .inl (same.trans e)
      · exact .inr (.inl (same.trans e))
    · exact .inr (.inr later)

/-- The peak is the magnitude of a sample that no other exceeds. -/
theorem peakOf_attained (v : Vector Sample 64) :
    ∃ k, peakOf v = (v.pick k).toInt.natAbs ∧ ∀ n, (v.pick n).toInt.natAbs ≤ (v.pick k).toInt.natAbs := by
  obtain ⟨attained, -, bound⟩ := foldl_max magnitude v.toList 0
  have sample (n : Fin 64) : v.pick n ∈ v.toList := by
    rw [toList_eq_map_pick]; exact List.mem_map_of_mem (List.mem_finRange n)
  have bounded (n : Fin 64) : (v.pick n).toInt.natAbs ≤ peakOf v := bound _ (sample n)
  suffices found : ∃ k, peakOf v = (v.pick k).toInt.natAbs by
    obtain ⟨k, peak⟩ := found
    exact ⟨k, peak, fun n => peak ▸ bounded n⟩
  rcases attained with zero | ⟨x, hx, peak⟩
  · exact ⟨0, Nat.le_antisymm (zero.le.trans (Nat.zero_le _)) (bounded 0)⟩
  · rw [toList_eq_map_pick] at hx
    obtain ⟨k, -, rfl⟩ := List.mem_map.mp hx
    exact ⟨k, peak⟩

theorem overloads_iff (v : Vector Sample 64) :
    overloads v = true ↔ ∃ k, (v.pick k).toInt = 8388607 ∨ (v.pick k).toInt = -8388608 := by
  simp [overloads, toList_eq_map_pick]

theorem Preamp.endCycle_void {x : Preamp} (v : Vector Sample 64) (h : x.void = true) :
    x.endCycle v = { x with lastPeak := none, overload := false } := if_pos h

theorem Preamp.endCycle_valid {x : Preamp} (v : Vector Sample 64) (h : x.void = false) :
    x.endCycle v = { x with lastPeak := some (peakOf v), overload := overloads v } :=
  if_neg (Bool.eq_false_iff.mp h)

/-- Nothing but peak and overload changes. -/
theorem Preamp.endCycle_frame (x : Preamp) (v : Vector Sample 64) :
    { x.endCycle v with lastPeak := x.lastPeak, overload := x.overload } = x := by
  unfold Preamp.endCycle; split <;> rfl

theorem Preamp.endCycle_report (x : Preamp) (v : Vector Sample 64) :
    (x.endCycle v).report =
      { gainActual := x.gainActual, padInEffect := x.padInEffect, modeInEffect := x.modeInEffect,
        phantomApplied := x.phantomReached, causes := x.causes, lastPeak := (x.endCycle v).lastPeak } := by
  unfold Preamp.endCycle; split <;> rfl

/-! ### CLIP (R97) -/

theorem saturatedBy_iff (s : State) (p : Port) (map : SlotMap) (i : InputNo) :
    saturatedBy s p map i = true ↔
      isVoid (s.frontEnd.reports.pick i).causes = false ∧
      ∃ k f n, map.pick k = some { input := i, format := f } ∧
        saturates f (s.level.rounding.pick p)
          (productOf ((s.arbiter.handed.pick p).pick i) ((s.level.samples.pick i).pick n)) = true := by
  have slot (k : Fin 32) (P : Format → Fin 64 → Bool) :
      (match map.pick k with
        | none => false
        | some e => e.input == i && (List.finRange 64).any (P e.format)) = true ↔
      ∃ f n, map.pick k = some { input := i, format := f } ∧ P f n = true := by
    rcases map.pick k with _ | ⟨j, f⟩
    · simp
    · by_cases same : j = i <;> simp [same]
  rw [saturatedBy, Bool.and_eq_true, Bool.not_eq_true', List.any_eq_true]
  refine and_congr_right fun _ => ?_
  simp only [List.mem_finRange, true_and]
  exact exists_congr fun k => slot k fun f n => saturates f (s.level.rounding.pick p)
    (productOf ((s.arbiter.handed.pick p).pick i) ((s.level.samples.pick i).pick n))

/-! ### The state the cycle end leaves -/

/-- The state that the stickies are set on, the front end's work done: the records handed over and the samples taken. -/
def State.handOver (u : State) (samples : CycleSamples) : State := (u.handRecords).takeSamples samples

/-- The state a cycle end leaves, the front end's work done. -/
def State.concludeCycle (u : State) (samples : CycleSamples) : State :=
  (u.handOver samples).setStickies.evaluateWatches

theorem State.endCycle_eq (s : State) (samples : CycleSamples) :
    s.endCycle samples = (s.endFrontEnd samples).concludeCycle samples := by
  rw [State.endCycle, State.concludeCycle, State.handOver]

/-- What the blocks behind the front end leave. -/
theorem State.concludeCycle_frame (u : State) (samples : CycleSamples) :
    { u.concludeCycle samples with arbiter := u.arbiter, level := u.level, watches := u.watches } = u ∧
    (u.concludeCycle samples).arbiter = { u.arbiter with handed := u.arbiter.records } ∧
    { (u.concludeCycle samples).level with clip := u.level.clip, void := u.level.void } =
      { u.level with samples := samples, rounding := u.level.inEffect, clipBefore := some u.level.clip } :=
  ⟨rfl, rfl, rfl⟩

section

variable (u : State) (samples : CycleSamples) (p : Port) (i : InputNo)

theorem State.concludeCycle_void : ((u.concludeCycle samples).level.void.pick p).pick i =
    ((u.level.void.pick p).pick i || isVoid (u.frontEnd.reports.pick i).causes) := by
  have picked := congrArg (·.pick i) (Vector.pick_fill (fun p => (Vector.fill fun i =>
    (u.level.void.pick p).pick i || (u.frontEnd.reports.pick i).causes.any)) p)
  exact picked.trans (Vector.pick_fill _ i)

theorem State.concludeCycle_clip : ((u.concludeCycle samples).level.clip.pick p).pick i = true ↔
    (u.level.clip.pick p).pick i = true ∨ isVoid (u.frontEnd.reports.pick i).causes = false ∧
      ∃ k f n, (comingMap u p).pick k = some { input := i, format := f } ∧
        saturates f (u.level.inEffect.pick p) (productOf (u.record p i) ((samples.pick i).pick n)) = true := by
  have set : ((u.concludeCycle samples).level.clip.pick p).pick i =
      ((u.level.clip.pick p).pick i || saturatedBy (u.handOver samples) p (comingMap u p) i) := by
    rw [← State.clips_eq]
    exact State.clipBy_pick (u.handOver samples) u.level.clip (fun p => (u.mapsOf p).next) p i
  rw [set, Bool.or_eq_true]
  exact or_congr_right (saturatedBy_iff (u.handOver samples) p (comingMap u p) i)

end

/-! ### The front end's work (R21 to R23, R166) -/

section

variable (s : State) (samples : CycleSamples) (p : Port) (i : InputNo)

theorem State.endFrontEnd_frame : s.endFrontEnd samples = { s with frontEnd := (s.endFrontEnd samples).frontEnd } := by
  simp only [State.endFrontEnd]

theorem State.endFrontEnd_groups : (s.endFrontEnd samples).frontEnd.groups = s.frontEnd.groups := by
  simp only [State.endFrontEnd]

theorem State.endFrontEnd_report : (s.endFrontEnd samples).frontEnd.reports.pick i =
    ((s.endFrontEnd samples).input i).report := by
  rw [State.endFrontEnd_input]; simp only [State.endFrontEnd, Vector.pick_fill]

theorem State.endFrontEnd_ovl : ((s.endFrontEnd samples).frontEnd.ovl.pick p).pick i =
    ((s.frontEnd.ovl.pick p).pick i || ((s.endFrontEnd samples).input i).overload) := by
  rw [State.endFrontEnd_input]; simp only [State.endFrontEnd, Vector.pick_fill]

end

end Sys2Proof.Machine

namespace Sys2Proof.Proofs

open Sys2Proof.Machine Sys2Proof.Safety Sys2Proof.Claims

/-- Settles O48: the front end's work first, and then that of the blocks behind it on what it leaves. -/
theorem aCycleEndFindsPeaksAndSetsStickies : Obligations.ACycleEndFindsPeaksAndSetsStickies := by
  intro s samples running
  refine ⟨_, exec_cycleEnd samples running, ?_⟩
  have groups := s.endFrontEnd_groups samples
  have input := s.endFrontEnd_input samples
  have report := s.endFrontEnd_report samples
  have ovl := s.endFrontEnd_ovl samples
  simp only [input] at report ovl
  rw [State.endCycle_eq]
  rw [State.endFrontEnd_frame] at input ⊢
  generalize (s.endFrontEnd samples).frontEnd = x at *
  obtain ⟨-, handed, taken⟩ := State.concludeCycle_frame { s with frontEnd := x } samples
  refine ⟨rfl, groups, handed, taken, fun i => ?_⟩
  have ended : (State.concludeCycle { s with frontEnd := x } samples).input i =
    (s.input i).endCycle (samples.pick i) := input i
  have left : x.reports.pick i = _ := (report i).trans (Preamp.endCycle_report _ _)
  have causes : (x.reports.pick i).causes = (s.input i).causes := congrArg InputReport.causes left
  dsimp only
  rw [ended]
  refine ⟨Preamp.endCycle_frame _ _, fun void => ?_, fun valid => ?_, left, fun p => ⟨ovl p i, ?_, ?_⟩⟩
  · rw [Preamp.endCycle_void _ void]
    exact ⟨rfl, rfl⟩
  · rw [Preamp.endCycle_valid _ valid]
    obtain ⟨k, peak, most⟩ := peakOf_attained (samples.pick i)
    exact ⟨⟨k, congrArg some peak, most⟩, overloads_iff _⟩
  · rw [← causes]
    exact State.concludeCycle_void { s with frontEnd := x } samples p i
  · rw [← causes]
    exact State.concludeCycle_clip { s with frontEnd := x } samples p i

end Sys2Proof.Proofs
end
